-- ==== Sys2Proof/Word.lean ====
section
/-! DEFINITION. The word types of the BAM servo core: every width is fixed by 00_scope.md R7 and
30_encoding.md R62, so each name below is one fixed `BitVec`. -/

namespace Sys2Proof

/-- A command word `{OP[39:36], IDX[35:32], DATA[31:0]}` (R62). -/
abbrev CommandWord := BitVec 40

/-- The operation code field of a command word (R62, R71). -/
abbrev OpCode := BitVec 4

/-- The register index field of a command word (R62, R70). -/
abbrev Idx := BitVec 4

/-- The 32-bit operand of a command and the 32-bit data of a response (R62, R64). -/
abbrev Data := BitVec 32

/-- A raw angle code, `OFFSET` or `ANCHOR`: code steps of 2π/1024 rad (R7). -/
abbrev AngleCode := BitVec 10

/-- A length in u = 2^-16 m (R7). -/
abbrev Length := BitVec 17

/-- A time in TIMEBASE units (R6, R7); the unit itself is `Config.timebase`. -/
abbrev Time := BitVec 32

/-- A PWM channel level, and `DUTY_FS`, in duty counts (R7). -/
abbrev Level := BitVec 15

/-- The six sticky flags, or the interrupt mask over them (R29, R35). -/
abbrev FlagBits := BitVec 6

end Sys2Proof
end

