-- ==== Sys2Proof/Syntax.lean ====
section
/-! DEFINITION. The command set of the block, version 1 (30_encoding.md R71): one constructor per row
of spec/opcode_table.json. An operand a format ignores (R63, R74) is not part of the command. -/

namespace Sys2Proof

/-- A command (R71). -/
inductive Instr where
  /-- `NOP`, OP 0x0, format N (R126). -/
  | nop
  /-- `SET_TARGET`, OP 0x1, format D: the target length in u (R98). -/
  | setTarget (target : Data)
  /-- `ESTOP`, OP 0x2, format N (R100). -/
  | estop
  /-- `QUERY_LENGTH`, OP 0x3, format N (R95). -/
  | queryLength
  /-- `TICK`, OP 0x4, format D: the timestamp `now` (R102). -/
  | tick (now : Time)
  /-- `CFG_WRITE`, OP 0x5, format ID: configuration index and value (R127). -/
  | cfgWrite (idx : Idx) (data : Data)
  /-- `CFG_READ`, OP 0x6, format I: configuration index (R129). -/
  | cfgRead (idx : Idx)
  /-- `STAT_READ`, OP 0x7, format I: status index (R130). -/
  | statRead (idx : Idx)
  /-- `CLEAR_FLAGS`, OP 0x8, format D: the mask, of which bits 5..0 count (R131). -/
  | clearFlags (mask : Data)
deriving DecidableEq, Repr

end Sys2Proof
end

