-- ==== Sys2Proof/Decode.lean ====
section
/-! DEFINITION. Decoding and encoding of command words (30_encoding.md R62 to R75, R79). Decoding is
total: every 40-bit word is exactly one command or is illegal, by name (R75). -/

namespace Sys2Proof

/-- Why a word spells no command (R72, R73). -/
inductive DecodeError where
  /-- OP is 0x9 to 0xF (R72). -/
  | reservedOpcode (op : OpCode)
  /-- A format N or D operation with `IDX ≠ 0` (R73). -/
  | nonzeroIndex (op : OpCode) (idx : Idx)
deriving DecidableEq, Repr

/-- What a command word spells (R75). -/
inductive Decoded where
  | command (i : Instr)
  | illegal (why : DecodeError)
deriving DecidableEq, Repr

/-- The field `OP`, bits 39:36 (R62). -/
def opField (w : CommandWord) : OpCode := w.extractLsb' 36 4

/-- The field `IDX`, bits 35:32 (R62). -/
def idxField (w : CommandWord) : Idx := w.extractLsb' 32 4

/-- The field `DATA`, bits 31:0 (R62). -/
def dataField (w : CommandWord) : Data := w.extractLsb' 0 32

/-- Formats N and D: the command `i`, unless `IDX` is not 0 (R63, R73). -/
def withoutIndex (w : CommandWord) (i : Instr) : Decoded :=
  if idxField w = 0#4 then .command i else .illegal (.nonzeroIndex (opField w) (idxField w))

/-- `decode(w)` of R75, by the operation codes of R71. -/
def decode (w : CommandWord) : Decoded :=
  match (opField w).toNat with
  | 0 => withoutIndex w .nop
  | 1 => withoutIndex w (.setTarget (dataField w))
  | 2 => withoutIndex w .estop
  | 3 => withoutIndex w .queryLength
  | 4 => withoutIndex w (.tick (dataField w))
  | 5 => .command (.cfgWrite (idxField w) (dataField w))
  | 6 => .command (.cfgRead (idxField w))
  | 7 => .command (.statRead (idxField w))
  | 8 => withoutIndex w (.clearFlags (dataField w))
  | _ => .illegal (.reservedOpcode (opField w))

/-- The word `{op, idx, data}` (R62, R79). -/
def commandWord (op : OpCode) (idx : Idx) (data : Data) : CommandWord := op ++ idx ++ data

/-- The word an assembler emits for a command: unused fields are 0 (R71, R77, R79). -/
def encode : Instr → CommandWord
  | .nop => commandWord 0x0#4 0#4 0#32
  | .setTarget target => commandWord 0x1#4 0#4 target
  | .estop => commandWord 0x2#4 0#4 0#32
  | .queryLength => commandWord 0x3#4 0#4 0#32
  | .tick now => commandWord 0x4#4 0#4 now
  | .cfgWrite idx data => commandWord 0x5#4 idx data
  | .cfgRead idx => commandWord 0x6#4 idx 0#32
  | .statRead idx => commandWord 0x7#4 idx 0#32
  | .clearFlags mask => commandWord 0x8#4 0#4 mask

/-- The command word in the low `nbits` bits of `w`, numbered as spec/opcode_table.json numbers them
(a command is ONE 40-bit word, carried in parallel: R47, R62). -/
def tableWord (nbits w : Nat) : CommandWord := BitVec.ofNat 40 (w % 2 ^ nbits)

/-- The instruction the decoder reads from an instruction whose bits are `w`. -/
def decodeTableWord (nbits w : Nat) : Option Instr :=
  match decode (tableWord nbits w) with
  | .command i => some i
  | .illegal _ => none

end Sys2Proof
end

