-- ==== Sys2Proof/Machine/CosRom.lean ====
section
/-! DEFINITION. The cosine ROM (10_state.md R43, 40_kinematics.md R92): 257 entries of 16 bits, read
only by `Kin`, written by nothing. The values are the table of R92, eight entries a line. -/

namespace Sys2Proof.Machine

/-- `ROM_COS[0]` to `ROM_COS[63]` (R92). -/
def romCosA : List Nat :=
  [32768, 32767, 32766, 32762, 32758, 32753, 32746, 32738] ++
  [32729, 32718, 32706, 32693, 32679, 32664, 32647, 32629] ++
  [32610, 32590, 32568, 32546, 32522, 32496, 32470, 32442] ++
  [32413, 32383, 32352, 32319, 32286, 32251, 32214, 32177] ++
  [32138, 32099, 32058, 32015, 31972, 31927, 31881, 31834] ++
  [31786, 31737, 31686, 31634, 31581, 31527, 31471, 31415] ++
  [31357, 31298, 31238, 31177, 31114, 31050, 30986, 30920] ++
  [30853, 30784, 30715, 30644, 30572, 30499, 30425, 30350]

/-- `ROM_COS[64]` to `ROM_COS[127]` (R92). -/
def romCosB : List Nat :=
  [30274, 30196, 30118, 30038, 29957, 29875, 29792, 29707] ++
  [29622, 29535, 29448, 29359, 29269, 29178, 29086, 28993] ++
  [28899, 28803, 28707, 28610, 28511, 28411, 28311, 28209] ++
  [28106, 28002, 27897, 27791, 27684, 27576, 27467, 27357] ++
  [27246, 27133, 27020, 26906, 26791, 26674, 26557, 26439] ++
  [26320, 26199, 26078, 25956, 25833, 25708, 25583, 25457] ++
  [25330, 25202, 25073, 24943, 24812, 24680, 24548, 24414] ++
  [24279, 24144, 24008, 23870, 23732, 23593, 23453, 23312]

/-- `ROM_COS[128]` to `ROM_COS[191]` (R92). -/
def romCosC : List Nat :=
  [23170, 23028, 22884, 22740, 22595, 22449, 22302, 22154] ++
  [22006, 21856, 21706, 21555, 21403, 21251, 21097, 20943] ++
  [20788, 20632, 20475, 20318, 20160, 20001, 19841, 19681] ++
  [19520, 19358, 19195, 19032, 18868, 18703, 18538, 18372] ++
  [18205, 18037, 17869, 17700, 17531, 17361, 17190, 17018] ++
  [16846, 16673, 16500, 16326, 16151, 15976, 15800, 15624] ++
  [15447, 15269, 15091, 14912, 14733, 14553, 14373, 14192] ++
  [14010, 13828, 13646, 13463, 13279, 13095, 12910, 12725]

/-- `ROM_COS[192]` to `ROM_COS[255]` (R92). -/
def romCosD : List Nat :=
  [12540, 12354, 12167, 11980, 11793, 11605, 11417, 11228] ++
  [11039, 10850, 10660, 10469, 10279, 10088, 9896, 9704] ++
  [9512, 9319, 9127, 8933, 8740, 8546, 8351, 8157] ++
  [7962, 7767, 7571, 7376, 7180, 6983, 6787, 6590] ++
  [6393, 6195, 5998, 5800, 5602, 5404, 5205, 5007] ++
  [4808, 4609, 4410, 4211, 4011, 3812, 3612, 3412] ++
  [3212, 3012, 2811, 2611, 2411, 2210, 2009, 1809] ++
  [1608, 1407, 1206, 1005, 804, 603, 402, 201]

/-- `ROM_COS[0..256]` (R92). -/
def romTable : List Nat := romCosA ++ romCosB ++ romCosC ++ romCosD ++ [0]

/-- `ROM_COS[k]` for `k` in 0..256 (R43, R92); no rule reads another index. -/
def romCos (k : Nat) : Nat := romTable.getD k 0

/-- `COS(k)` for a code `k` in 0..1023: the quarter wave extended by symmetry (R90). -/
def cosCode (k : Nat) : Int :=
  if k ≤ 256 then (romCos k : Int)
  else if k ≤ 512 then -(romCos (512 - k) : Int)
  else if k ≤ 768 then -(romCos (k - 512) : Int)
  else (romCos (1024 - k) : Int)

end Sys2Proof.Machine
end

