-- ==== Sys2Proof/Machine/Arith.lean ====
section
/-! DEFINITION. The integer primitives of the spec's pseudocode (00_scope.md R9, 44_absent_classes.md
R176): exact arithmetic on integers, clamps and the floor square root. -/

namespace Sys2Proof.Machine

/-- `clamp(x, lo, hi) = min(max(x, lo), hi)` on signed integers; `hi` when `lo > hi` (R9). -/
def clampInt (x lo hi : Int) : Int := min (max x lo) hi

/-- `clamp(x, lo, hi) = min(max(x, lo), hi)` on unsigned integers; `hi` when `lo > hi` (R9, R99). -/
def clampNat (x lo hi : Nat) : Nat := min (max x lo) hi

/-- The bits below `2 ^ b` of the square root of `n`, most significant first, added to `root`. -/
def isqrtBits (n : Nat) : Nat → Nat → Nat
  | 0, root => root
  | b + 1, root =>
    isqrtBits n b (if (root + 2 ^ b) * (root + 2 ^ b) ≤ n then root + 2 ^ b else root)

/-- `isqrt(n)`: the largest `s` with `s * s ≤ n` (R9), found bit by bit. -/
def isqrt (n : Nat) : Nat := isqrtBits n (n.log2 / 2 + 1) 0

/-- The wire that carries a truth value. -/
def bit (b : Bool) : BitVec 1 := BitVec.ofBool b

end Sys2Proof.Machine
end

