-- ==== Sys2Proof/Config.lean ====
section
/-! DEFINITION. What an implementation of the block fixes (00_scope.md R6) and what the spec leaves
free: the parameters with their defaults, the unit of time, the encoder's draws. -/

namespace Sys2Proof.Config

/-- The two calibration styles (R19, R86). -/
inductive KinStyle where
  /-- KIN_STYLE = 0: law of cosines anchored at the minimum length. -/
  | anchor
  /-- KIN_STYLE = 1: joint angle clamped to [0, π/2]. -/
  | clamp
deriving DecidableEq, Repr

/-- What an applied tick with a kinematic fault does to the duty (R19, R106). -/
inductive FaultPolicy where
  /-- FAULT_POLICY = 0: command duty 0. -/
  | zero
  /-- FAULT_POLICY = 1: keep the previous duty. -/
  | hold
deriving DecidableEq, Repr

/-- The implementation parameters of R6. A state carries them (`State.build`) and no step writes
them, so a statement over all states holds for every value of each (log 4).
`TIMEBASE`, which no arithmetic reads, is `Config.timebase`. -/
structure Params where
  /-- `T_LAT - 1`: the cycles a kinematic operation spends in flight after its acceptance cycle.
  Stored less one because `T_LAT` is at least 1 (R6). -/
  extraLatency : Nat
  l1 : BitVec 16
  l2 : BitVec 16
  offset : AngleCode
  anchor : AngleCode
  lmin : Length
  lmax : Length
  kp : BitVec 24
  dutyFs : Level
  minPeriod : Time
  kinStyle : KinStyle
  faultPolicy : FaultPolicy
deriving DecidableEq, Repr

/-- The latency of the kinematic unit (R6, R160). -/
def Params.tLat (p : Params) : Nat := p.extraLatency + 1

/-- The default build: the "this spec" column of R6. -/
def Params.default : Params where
  extraLatency := 0
  l1 := 13107#16
  l2 := 3604#16
  offset := 0#10
  anchor := 0#10
  lmin := 9503#17
  lmax := 16679#17
  kp := 75776#24
  dutyFs := 1023#15
  minPeriod := 0#32
  kinStyle := .anchor
  faultPolicy := .zero

/-- `TIMEBASE` (R6, OPEN): the physical length of one unit of `tick_now`, `MIN_PERIOD` and
`LAST_UPDATE`. DESIGN CHOICE: an uninterpreted number; no rule computes with it (log 12). Safe. -/
opaque timebase : Nat

/-- A FREE VALUE: the raw angle code on `enc_raw` in a cycle for which no port values were presented
(R11: a draw, any value in 0..1023, under no law). `encDraw k` is the draw of cycle `k`; nothing can
be proved about it (log 3). Safe. -/
opaque encDraw : Nat → AngleCode

end Sys2Proof.Config
end

