-- ==== Sys2Proof/Machine/State.lean ====
section
/-! DEFINITION. The state of the block (10_state.md R17 to R42, 30_encoding.md R59, R64) as plain data,
its state after reset (70_reset_and_hazards.md R153), and the reasons a step could stop. -/

namespace Sys2Proof.Machine

open Sys2Proof.Config

/-- The block has no fault: no condition stops it or transfers control (R13 "The block never halts";
R133). Safe: nothing raises it, because it has no constructor. -/
inductive Fault
deriving DecidableEq, Repr

/-- Why a step would have no meaning. -/
inductive Refusal where
  /-- Raised by an arm of `exec` whose instruction has no meaning yet. Safe: the model stops. No arm
  raises it: every command of R71 has its meaning. -/
  | notModelled (mnemonic : String)
deriving DecidableEq, Repr

/-- The configuration space, indices 0 to 10 (R18 to R29). -/
structure CfgRegs where
  /-- `CFG.CTRL_CFG`: bit 0 KIN_STYLE, bit 1 FAULT_POLICY (R19). -/
  ctrlCfg : BitVec 2
  /-- `CFG.L1` (R20). -/
  l1 : BitVec 16
  /-- `CFG.L2` (R21). -/
  l2 : BitVec 16
  /-- `CFG.OFFSET` (R22). -/
  offset : AngleCode
  /-- `CFG.ANCHOR` (R23). -/
  anchor : AngleCode
  /-- `CFG.LMIN` (R24). -/
  lmin : Length
  /-- `CFG.LMAX` (R25). -/
  lmax : Length
  /-- `CFG.KP`, Q12.12 (R26). -/
  kp : BitVec 24
  /-- `CFG.DUTY_FS` (R27). -/
  dutyFs : Level
  /-- `CFG.MIN_PERIOD` (R28). -/
  minPeriod : Time
  /-- `CFG.IRQ_MASK` (R29). -/
  irqMask : FlagBits
deriving DecidableEq, Repr

/-- The values on the input ports in one cycle, sampled at its closing edge (R59, R157). -/
structure PortInputs where
  rst : Bool
  cmdValid : Bool
  cmdWord : CommandWord
  tickValid : Bool
  tickNow : Time
  estopReq : Bool
  encRaw : AngleCode
deriving DecidableEq, Repr

/-- Ports on which nothing is asked of the block, with a given encoder level. -/
def PortInputs.idle (raw : AngleCode) : PortInputs where
  rst := false
  cmdValid := false
  cmdWord := 0#40
  tickValid := false
  tickNow := 0#32
  estopReq := false
  encRaw := raw

/-- The snapshot an operation of the kinematic unit takes at its acceptance (R42, R160). -/
structure Snapshot where
  /-- The sampled raw angle code. -/
  raw : AngleCode
  /-- The `now` operand of the tick. -/
  now : Time
  /-- `ST.TARGET` at acceptance. -/
  target : Length
  /-- The configuration at acceptance, whole (log 15). -/
  cfg : CfgRegs
deriving DecidableEq, Repr

/-- A tick in flight: `ST.COMMIT_AT` and its snapshot (R42, R160). -/
structure TickFlight where
  commitAt : Nat
  snap : Snapshot
deriving DecidableEq, Repr

/-- A QUERY_LENGTH whose response is owed: `ST.COMMIT_AT`, `ST.QCANCEL`, and its snapshot
(R42, R161, R162). -/
structure QueryFlight where
  commitAt : Nat
  /-- `ST.QCANCEL`: pre-empted by a tick, will answer BUSY. -/
  cancelled : Bool
  raw : AngleCode
  cfg : CfgRegs
deriving DecidableEq, Repr

/-- The state of the block between two clock edges, together with the values its environment presents.
The inventory (INVENTORY.md, State) names the rule of every field. -/
structure State where
  /-- The implementation parameters (R6): constant (log 4). -/
  build : Params
  /-- The configuration registers (R18 to R29). -/
  cfg : CfgRegs
  /-- `ST.ENABLED` (R30). -/
  enabled : Bool
  /-- `ST.TARGET` (R31). -/
  target : Length
  /-- `ST.LAST_UPDATE` (R32). -/
  lastUpdate : Time
  /-- `ST.DUTY`, two's complement (R33). -/
  duty : BitVec 16
  /-- `OUT.PWM_A`, extend (R34). -/
  pwmA : Level
  /-- `OUT.PWM_B`, retract (R34). -/
  pwmB : Level
  /-- `ST.FLAGS` (R35). -/
  flags : FlagBits
  /-- `ST.LAST_TICK_FAULT` (R36). -/
  lastTickFault : Bool
  /-- `ST.LAST_LENGTH` (R36). -/
  lastLength : Length
  /-- `ST.LAST_RAW` (R36). -/
  lastRaw : AngleCode
  /-- `ST.TICK_COUNT` (R38). -/
  tickCount : BitVec 32
  /-- The tick in flight, if any (R42). -/
  tickFlight : Option TickFlight
  /-- The QUERY_LENGTH whose response is owed, if any (R42, R161). -/
  queryFlight : Option QueryFlight
  /-- `rsp_valid` (R64). -/
  rspValid : Bool
  /-- `rsp_status` (R64). -/
  rspStatus : BitVec 2
  /-- `rsp_data` (R64). -/
  rspData : Data
  /-- `enc_strobe` (R60). -/
  encStrobe : Bool
  /-- The MODEL's own: the number of the current cycle (log 6). -/
  cycle : Nat
  /-- The values on the input ports in the current cycle (R59). -/
  pins : PortInputs
  /-- The MODEL's own: the port values of the following cycles, as far as they are presented (log 2). -/
  stimulus : List PortInputs
deriving DecidableEq, Repr

/-- KIN_STYLE as the bit of CTRL_CFG (R19). -/
def kinStyleBit : KinStyle → BitVec 1
  | .anchor => 0#1
  | .clamp => 1#1

/-- FAULT_POLICY as the bit of CTRL_CFG (R19). -/
def faultPolicyBit : FaultPolicy → BitVec 1
  | .zero => 0#1
  | .hold => 1#1

/-- The configuration registers after reset: the parameters, and IRQ_MASK = 0 (R153). -/
def CfgRegs.reset (p : Params) : CfgRegs where
  ctrlCfg := faultPolicyBit p.faultPolicy ++ kinStyleBit p.kinStyle
  l1 := p.l1
  l2 := p.l2
  offset := p.offset
  anchor := p.anchor
  lmin := p.lmin
  lmax := p.lmax
  kp := p.kp
  dutyFs := p.dutyFs
  minPeriod := p.minPeriod
  irqMask := 0#6

/-- The reset state of R153, in cycle `cycle`, with the given port values presented now and next. -/
def State.resetWith (p : Params) (cycle : Nat) (pins : PortInputs) (stimulus : List PortInputs) :
    State where
  build := p
  cfg := CfgRegs.reset p
  enabled := false
  target := 0#17
  lastUpdate := 0#32
  duty := 0#16
  pwmA := 0#15
  pwmB := 0#15
  flags := 0#6
  lastTickFault := false
  lastLength := 0#17
  lastRaw := 0#10
  tickCount := 0#32
  tickFlight := none
  queryFlight := none
  rspValid := false
  rspStatus := 0#2
  rspData := 0#32
  encStrobe := false
  cycle := cycle
  pins := pins
  stimulus := stimulus

/-- The machine right after reset (R153, R155), in the default build, in the first cycle with
`rst = 0`, with nothing presented on the ports: DESIGN CHOICE for the ports, unsafe (log 2); the
encoder level is a free value (log 3). -/
def State.reset : State := State.resetWith Params.default 0 (PortInputs.idle (encDraw 0)) []

end Sys2Proof.Machine
end

