-- ==== Sys2Proof/Machine/Flags.lean ====
section
/-! DEFINITION. The six sticky flags and the diagnostic interrupt (10_state.md R35,
60_exceptions.md R134, R140, R141). -/

namespace Sys2Proof.Machine

/-- The conditions a flag records (R35, R134). -/
inductive Flag where
  | kinFault
  | targetClamped
  | tickOverrun
  | illegalCmd
  | cfgRejected
  | tickAborted
deriving DecidableEq, Repr

/-- The bit of `ST.FLAGS`, which is also the condition's code (R35, R134). -/
def Flag.position : Flag → Nat
  | .kinFault => 0
  | .targetClamped => 1
  | .tickOverrun => 2
  | .illegalCmd => 3
  | .cfgRejected => 4
  | .tickAborted => 5

/-- The mask with that flag's bit alone. -/
def Flag.mask (f : Flag) : FlagBits := 1#6 <<< f.position

/-- `SetFlag(name)`: the flag's bit becomes 1, the others stay (R140). -/
def setFlag (f : Flag) (s : State) : State := { s with flags := s.flags ||| f.mask }

/-- The flags left by CLEAR_FLAGS with the mask `m`: `FLAGS & ~m` (R131). -/
def clearedFlags (flags m : FlagBits) : FlagBits := flags &&& ~~~m

/-- `diag_irq`: the OR over the six flags of flag AND mask bit, on the registered values (R141). -/
def diagIrq (s : State) : Bool := decide (s.flags &&& s.cfg.irqMask ≠ 0#6)

end Sys2Proof.Machine
end

