-- ==== Sys2Proof/Machine/KinUnit.lean ====
section
/-! DEFINITION. The hidden state of the kinematic unit under the spec's names (10_state.md R42,
70_reset_and_hazards.md R160 to R162), read off the two slots `tickFlight` and `queryFlight`.

DESIGN CHOICE (log 5), safe: the spec names ONE owner, commit cycle and snapshot, and also lets a
QUERY_LENGTH and a tick of one cycle be in flight together (R162) and a pre-empted QUERY_LENGTH keep
its response cycle; two slots hold both operations. -/

namespace Sys2Proof.Machine

/-- `ST.OWNER` (R42). -/
inductive Owner where
  | tick
  | query
deriving DecidableEq, Repr

/-- `ST.QCANCEL`: an in-flight QUERY_LENGTH was pre-empted (R42, R162). -/
def State.qcancel (s : State) : Bool := s.queryFlight.any (·.cancelled)

/-- A QUERY_LENGTH occupies the unit: in flight and not pre-empted (R161, R162). -/
def State.queryOccupies (s : State) : Bool := s.queryFlight.any (!·.cancelled)

/-- `ST.BUSY`: an operation is in flight (R42, R160). -/
def State.busy (s : State) : Bool := s.tickFlight.isSome || s.queryOccupies

/-- `ST.OWNER`, absent while `ST.BUSY = 0`; the tick when both are in flight (R42, R162). -/
def State.owner (s : State) : Option Owner :=
  if s.tickFlight.isSome then some .tick else if s.queryOccupies then some .query else none

/-- `ST.COMMIT_AT` of the owner, absent while `ST.BUSY = 0` (R42, R160). -/
def State.commitAt (s : State) : Option Nat :=
  match s.tickFlight with
  | some t => some t.commitAt
  | none => if s.queryOccupies then s.queryFlight.map (·.commitAt) else none

/-- No response of a QUERY_LENGTH that occupied the unit is owed: `cmd_ready` as a function of registered
state only (R59, R161; log 21). -/
def State.portFree (s : State) : Bool := s.queryFlight.isNone

/-- `cmd_ready`: 0 while `rst = 1`, 0 while the response of a QUERY_LENGTH that occupied the unit is
owed, else 1 (R61, R155, R161). DEDUCED, unsafe: R61 against R59 (log 7). -/
def State.cmdReady (s : State) : Bool := !s.pins.rst && s.portFree

/-- The command port accepts a command in this cycle (R61). -/
def State.accepts (s : State) : Bool := s.pins.cmdValid && s.cmdReady

/-- The cycle at whose end an operation accepted now commits: `k + T_LAT - 1` (R160). -/
def State.commitCycle (s : State) : Nat := s.cycle + s.build.extraLatency

/-- A tick takes the unit: the QUERY_LENGTH in flight is cancelled, but for one accepted in the same
cycle (the one whose commit cycle is the tick's own), which shares the sample (R162; log 9). -/
def State.preemptedQuery (s : State) : Option QueryFlight :=
  s.queryFlight.map fun q =>
    if q.commitAt = s.commitCycle then q else { q with cancelled := true }

end Sys2Proof.Machine
end

