-- ==== Sys2Proof/Machine/Operands.lean ====
section
/-! DEFINITION. The operand forms of the commands: the registers an index names in the configuration
and the status space, reading and writing them, and the fields of the control register
(10_state.md R18 to R40, 30_encoding.md R69, R70, R78, 43_register_access.md R128). -/

namespace Sys2Proof.Machine

open Sys2Proof.Config

/-- The mapped registers of the configuration space (R18, R78). -/
inductive CfgReg where
  | ctrlCfg
  | l1
  | l2
  | offset
  | anchor
  | lmin
  | lmax
  | kp
  | dutyFs
  | minPeriod
  | irqMask
deriving DecidableEq, Repr

/-- The register a configuration index names; 11 to 15 name none (R18, R78). -/
def cfgRegAt (i : Idx) : Option CfgReg :=
  match i.toNat with
  | 0 => some .ctrlCfg
  | 1 => some .l1
  | 2 => some .l2
  | 3 => some .offset
  | 4 => some .anchor
  | 5 => some .lmin
  | 6 => some .lmax
  | 7 => some .kp
  | 8 => some .dutyFs
  | 9 => some .minPeriod
  | 10 => some .irqMask
  | _ => none

/-- The width of a configuration register (R128). -/
def CfgReg.width : CfgReg → Nat
  | .ctrlCfg => 2
  | .l1 => 16
  | .l2 => 16
  | .offset => 10
  | .anchor => 10
  | .lmin => 17
  | .lmax => 17
  | .kp => 24
  | .dutyFs => 15
  | .minPeriod => 32
  | .irqMask => 6

/-- `zext_32(CFG[r])` (R18, R129). -/
def readCfg (r : CfgReg) (c : CfgRegs) : Data :=
  match r with
  | .ctrlCfg => c.ctrlCfg.setWidth 32
  | .l1 => c.l1.setWidth 32
  | .l2 => c.l2.setWidth 32
  | .offset => c.offset.setWidth 32
  | .anchor => c.anchor.setWidth 32
  | .lmin => c.lmin.setWidth 32
  | .lmax => c.lmax.setWidth 32
  | .kp => c.kp.setWidth 32
  | .dutyFs => c.dutyFs.setWidth 32
  | .minPeriod => c.minPeriod
  | .irqMask => c.irqMask.setWidth 32

/-- `CFG[r] <- DATA[width(r)-1 : 0]`: the low bits are kept, the rest dropped (R18, R127, R128). -/
def writeCfg (r : CfgReg) (data : Data) (c : CfgRegs) : CfgRegs :=
  match r with
  | .ctrlCfg => { c with ctrlCfg := data.setWidth 2 }
  | .l1 => { c with l1 := data.setWidth 16 }
  | .l2 => { c with l2 := data.setWidth 16 }
  | .offset => { c with offset := data.setWidth 10 }
  | .anchor => { c with anchor := data.setWidth 10 }
  | .lmin => { c with lmin := data.setWidth 17 }
  | .lmax => { c with lmax := data.setWidth 17 }
  | .kp => { c with kp := data.setWidth 24 }
  | .dutyFs => { c with dutyFs := data.setWidth 15 }
  | .minPeriod => { c with minPeriod := data }
  | .irqMask => { c with irqMask := data.setWidth 6 }

/-- KIN_STYLE, bit 0 of CTRL_CFG (R19). -/
def CfgRegs.kinStyle (c : CfgRegs) : KinStyle := if c.ctrlCfg.getLsbD 0 then .clamp else .anchor

/-- FAULT_POLICY, bit 1 of CTRL_CFG (R19). -/
def CfgRegs.faultPolicy (c : CfgRegs) : FaultPolicy := if c.ctrlCfg.getLsbD 1 then .hold else .zero

/-- The mapped registers of the status space (R39, R78). -/
inductive StatReg where
  | status
  | flags
  | target
  | duty
  | pwmA
  | pwmB
  | lastLength
  | lastUpdate
  | tickCount
  | lastRaw
  | id
deriving DecidableEq, Repr

/-- The register a status index names; 11 to 15 name none (R39, R78). -/
def statRegAt (i : Idx) : Option StatReg :=
  match i.toNat with
  | 0 => some .status
  | 1 => some .flags
  | 2 => some .target
  | 3 => some .duty
  | 4 => some .pwmA
  | 5 => some .pwmB
  | 6 => some .lastLength
  | 7 => some .lastUpdate
  | 8 => some .tickCount
  | 9 => some .lastRaw
  | 10 => some .id
  | _ => none

/-- The constant `ID` (R37). -/
def idWord : Data := 0x42414D01#32

/-- The STATUS word `{28'b0, diag_irq, LAST_TICK_FAULT, BUSY, ENABLED}` (R40). -/
def statusWord (s : State) : Data :=
  0#28 ++ bit (diagIrq s) ++ bit s.lastTickFault ++ bit s.busy ++ bit s.enabled

/-- `STATVAL(r)`: the value a status register reads as (R39); DUTY is sign-extended. -/
def statVal (r : StatReg) (s : State) : Data :=
  match r with
  | .status => statusWord s
  | .flags => s.flags.setWidth 32
  | .target => s.target.setWidth 32
  | .duty => s.duty.signExtend 32
  | .pwmA => s.pwmA.setWidth 32
  | .pwmB => s.pwmB.setWidth 32
  | .lastLength => s.lastLength.setWidth 32
  | .lastUpdate => s.lastUpdate
  | .tickCount => s.tickCount
  | .lastRaw => s.lastRaw.setWidth 32
  | .id => idWord

/-- The mask operand of CLEAR_FLAGS: `DATA[5:0]` (R69, R131). -/
def flagMask (data : Data) : FlagBits := data.setWidth 6

/-- `(now - LAST_UPDATE) mod 2^32` (R104). -/
def elapsed (now lastUpdate : Time) : Time := now - lastUpdate

end Sys2Proof.Machine
end

