-- ==== Sys2Proof/Machine/Ops.lean ====
section
/-! DEFINITION. The named operations every command is built from: `Respond` and the error answers
(00_scope.md R12, 60_exceptions.md R133 to R136), `SetDuty` (42_motor_driver.md R118 to R122), the
emergency-stop effect (41_controller.md R101), sampling the encoder (00_scope.md R11).

The block takes no exceptions (R133, R143): an error condition is a flag, a response status, or both.
`answerError` is the one operation for a command that meets one. -/

namespace Sys2Proof.Machine

/-- The response statuses (R64). -/
inductive RspStatus where
  | ok
  | illegal
  | rejected
  | busy
deriving DecidableEq, Repr

/-- The code on `rsp_status` (R64). -/
def RspStatus.code : RspStatus → BitVec 2
  | .ok => 0#2
  | .illegal => 1#2
  | .rejected => 2#2
  | .busy => 3#2

/-- `Respond(status, data)`: load the response register (R12, R64). -/
def respond (status : RspStatus) (data : Data) (s : State) : State :=
  { s with rspValid := true, rspStatus := status.code, rspData := data }

/-- A command that meets an error condition sets its flag and answers with data 0 (R65, R134). -/
def answerError (f : Flag) (status : RspStatus) (s : State) : State :=
  respond status 0#32 (setFlag f s)

/-- ILLEGAL: the flag and the answer, nothing else (R72, R135). -/
def answerIllegal (s : State) : State := answerError .illegalCmd .illegal s

/-- REJECTED: the flag and the answer, nothing else (R136). -/
def answerRejected (s : State) : State := answerError .cfgRejected .rejected s

/-- The defensive clamp of the motor driver to `[-DUTY_FS, DUTY_FS]` (R119, R120). -/
def clampDuty (fs : Level) (d : Int) : Int := clampInt d (-(fs.toNat : Int)) (fs.toNat : Int)

/-- `SetDuty(d)` with the full scale `fs`: the duty and the two channel levels (R118, R119). -/
def setDuty (fs : Level) (d : Int) (s : State) : State :=
  let dc := clampDuty fs d
  { s with
    duty := BitVec.ofInt 16 dc
    pwmA := if 0 < dc then BitVec.ofInt 15 dc else 0#15
    pwmB := if 0 < dc then 0#15 else BitVec.ofInt 15 (-dc) }

/-- A stop cancels the tick in flight, which commits nothing, and records it (R101, R164). -/
def abortTick (s : State) : State :=
  match s.tickFlight with
  | some _ => setFlag .tickAborted { s with tickFlight := none }
  | none => s

/-- `EStopEffect()` (R101): Disabled, zero duty by the current full scale (R118), the tick in flight
cancelled. An in-flight QUERY_LENGTH is not touched (R164). -/
def eStopEffect (s : State) : State :=
  abortTick (setDuty s.cfg.dutyFs 0 { s with enabled := false })

/-- `EncRead()` in the acceptance cycle: the value on `enc_raw` (R11, R60). -/
def encRead (s : State) : AngleCode := s.pins.encRaw

/-- The block sampled the encoder in this cycle, which `enc_strobe` shows in the next (R60, R166). -/
def markSampled (s : State) : State := { s with encStrobe := true }

end Sys2Proof.Machine
end

