-- ==== Sys2Proof/Machine/Kinematics.lean ====
section
/-! DEFINITION. The angle-to-length converter (40_kinematics.md): the function `Kin` in fixed point
(R83 to R91), and the command QUERY_LENGTH (R95; 70_reset_and_hazards.md R161, R162). -/

namespace Sys2Proof.Machine

open Sys2Proof.Config

/-- Offset: `a = (raw - OFFSET) mod 1024` (R84). -/
def offsetCode (raw offset : AngleCode) : Int := ((raw.toNat : Int) - offset.toNat) % 1024

/-- Wrap into (-512, 512] (R85; 90_conflicts.md C1). -/
def wrapCode (a : Int) : Int := if a ≤ 512 then a else a - 1024

/-- Joint code `j`, by the calibration style (R86). -/
def jointCode (style : KinStyle) (w : Int) (anchor : AngleCode) : Int :=
  match style with
  | .anchor => w + anchor.toNat
  | .clamp => clampInt w 0 256

/-- The joint code is off the monotonic branch 0..512; CLAMP style never faults (R87). -/
def jointFault (style : KinStyle) (j : Int) : Bool :=
  match style with
  | .anchor => decide (j < 0 ∨ 512 < j)
  | .clamp => false

/-- Radicand `R = 16384 * (L1² + L2²) - L1 * L2 * C`, in u² / 16384 (R88). -/
def radicand (l1 l2 : BitVec 16) (c : Int) : Int :=
  16384 * ((l1.toNat : Int) * l1.toNat + (l2.toNat : Int) * l2.toNat) - (l1.toNat : Int) * l2.toNat * c

/-- `len = isqrt(R) >> 7`, an integer in u (R91). -/
def lengthOf (l1 l2 : BitVec 16) (c : Int) : Nat := isqrt (radicand l1 l2 c).toNat >>> 7

/-- The joint code of a raw code under a configuration (R84 to R86). -/
def jointOf (c : CfgRegs) (raw : AngleCode) : Int :=
  jointCode c.kinStyle (wrapCode (offsetCode raw c.offset)) c.anchor

/-- The length at joint code `j`: the cosine of `j mod 1024` in the law of cosines (R88, R90). -/
def lengthAt (c : CfgRegs) (j : Int) : Length :=
  BitVec.ofNat 17 (lengthOf c.l1 c.l2 (cosCode (j % 1024).toNat))

/-- `Kin(raw)`: the length in u and the fault bit (R83, R91). -/
def kin (c : CfgRegs) (raw : AngleCode) : Length × Bool :=
  (lengthAt c (jointOf c raw), jointFault c.kinStyle (jointOf c raw))

/-- The response data of QUERY_LENGTH: `{fault, 14'b0, len[16:0]}` (R95). -/
def queryData (c : CfgRegs) (raw : AngleCode) : Data := bit (kin c raw).2 ++ 0#14 ++ (kin c raw).1

/-- A QUERY_LENGTH takes the unit: it samples the encoder and either answers at once (`T_LAT = 1`) or
stays in flight with its snapshot until its commit cycle (R95, R160, R161). -/
def occupyWithQuery (s : State) : State :=
  if s.build.extraLatency = 0 then
    respond .ok (queryData s.cfg (encRead s)) (markSampled s)
  else
    { markSampled s with
      queryFlight := some
        { commitAt := s.commitCycle, cancelled := false, raw := encRead s, cfg := s.cfg } }

/-- QUERY_LENGTH (R95): BUSY while the unit is occupied. -/
def execQueryLength (s : State) : Host.Outcome State Fault Refusal :=
  .next (if s.busy then respond .busy 0#32 s else occupyWithQuery s)

/-- The answer a QUERY_LENGTH presents when its commit cycle ends: its result, or BUSY with data 0 if a
tick pre-empted it (R161, R162). -/
def answerQuery (q : QueryFlight) (s : State) : State :=
  if q.cancelled then respond .busy 0#32 s else respond .ok (queryData q.cfg q.raw) s

/-- Position 4 of the cycle for a QUERY_LENGTH: in its commit cycle it answers and leaves the unit
(R158, R160, R161). -/
def commitQuery (s : State) : State :=
  match s.queryFlight with
  | some q => if q.commitAt = s.cycle then answerQuery q { s with queryFlight := none } else s
  | none => s

end Sys2Proof.Machine
end

