-- ==== Sys2Proof/Machine/Controller.lean ====
section
/-! DEFINITION. The position controller (41_controller.md): SET_TARGET, ESTOP, TICK with its checks, the
proportional law and the commit of an applied tick (R97 to R117; 70_reset_and_hazards.md R160 to R164). -/

namespace Sys2Proof.Machine

open Sys2Proof.Config

/-- The clamped target `min(max(t, LMIN), LMAX)` (R99). -/
def clampedTarget (c : CfgRegs) (target : Data) : Nat :=
  clampNat target.toNat c.lmin.toNat c.lmax.toNat

/-- SET_TARGET (R98): clamp, flag a clamped target, enable. -/
def execSetTarget (target : Data) (s : State) : Host.Outcome State Fault Refusal :=
  let tc := clampedTarget s.cfg target
  let s1 := if tc ≠ target.toNat then setFlag .targetClamped s else s
  .next (respond .ok 0#32 { s1 with target := BitVec.ofNat 17 tc, enabled := true })

/-- ESTOP (R100). -/
def execEstop (s : State) : Host.Outcome State Fault Refusal :=
  .next (respond .ok 0#32 (eStopEffect s))

/-- Product `p = KP * DUTY_FS * e`, exact (R108). -/
def lawProduct (kp : BitVec 24) (fs : Level) (e : Int) : Int := (kp.toNat : Int) * fs.toNat * e

/-- Magnitude `m = (abs(p) + 2^27) >> 28`: half a count rounds away from zero (R109). -/
def roundedMagnitude (p : Int) : Nat := (p.natAbs + 2 ^ 27) >>> 28

/-- The rounded product, with the sign of `p` (R109). -/
def roundedDuty (p : Int) : Int :=
  if 0 ≤ p then (roundedMagnitude p : Int) else -(roundedMagnitude p : Int)

/-- `PLaw(e)`: the proportional law (R107 to R110, R115). -/
def pLaw (kp : BitVec 24) (fs : Level) (e : Int) : Int :=
  clampDuty fs (roundedDuty (lawProduct kp fs e))

/-- Error `e = TARGET - len` (R107). -/
def lengthError (target len : Length) : Int := (target.toNat : Int) - len.toNat

/-- What an applied tick does to the duty: the fault policy, or the proportional law (R106, R112).
Target and configuration are those of the snapshot (R105, R118). A fault leaves the controller Enabled, and the
next applied tick without one drives the duty again, with no new SET_TARGET (R30, R97, R137 and
95_test_vectors.md P2, against a sentence of R144, which is read as a rule for the host). DEDUCED, unsafe (log
22). -/
def driveDuty (snap : Snapshot) (s : State) : State :=
  let result := kin snap.cfg snap.raw
  if result.2 then
    match snap.cfg.faultPolicy with
    | .zero => setDuty snap.cfg.dutyFs 0 (setFlag .kinFault s)
    | .hold => setFlag .kinFault s
  else
    setDuty snap.cfg.dutyFs (pLaw snap.cfg.kp snap.cfg.dutyFs (lengthError snap.target result.1)) s

/-- The commit of an applied tick: all its writes, together (R102, R112). -/
def applyTick (snap : Snapshot) (s : State) : State :=
  let result := kin snap.cfg snap.raw
  driveDuty snap
    { s with
      lastRaw := snap.raw
      lastLength := result.1
      lastTickFault := result.2
      lastUpdate := snap.now
      tickCount := s.tickCount + 1#32 }

/-- The snapshot a tick takes at its acceptance (R42, R105, R160). -/
def tickSnapshot (now : Time) (s : State) : Snapshot where
  raw := encRead s
  now := now
  target := s.target
  cfg := s.cfg

/-- An accepted tick samples the encoder and takes the unit, pre-empting an in-flight QUERY_LENGTH; it
commits at once (`T_LAT = 1`) or stays in flight until its commit cycle (R102, R160, R162). -/
def acceptTick (now : Time) (s : State) : State :=
  let s1 := { markSampled s with queryFlight := s.preemptedQuery }
  if s.build.extraLatency = 0 then applyTick (tickSnapshot now s) s1
  else { s1 with tickFlight := some { commitAt := s.commitCycle, snap := tickSnapshot now s } }

/-- What becomes of a tick request (R102 to R104, R114). -/
inductive TickVerdict where
  /-- A tick already occupies the unit. -/
  | dropped
  /-- Skipped: Disabled. -/
  | disabled
  /-- Skipped: too soon after the last applied tick. -/
  | tooSoon
  /-- Accepted for application. -/
  | accepted
deriving DecidableEq, Repr

/-- The checks of a tick request, in the order of R102; `taken` says that the command port accepted a
TICK that passed its checks in this same cycle (`TickOccupied()`, R163). -/
def tickVerdict (taken : Bool) (now : Time) (s : State) : TickVerdict :=
  if s.tickFlight.isSome || taken then .dropped
  else if !s.enabled then .disabled
  else if elapsed now s.lastUpdate < s.cfg.minPeriod then .tooSoon
  else .accepted

/-- What a tick request does to the state, by its verdict (R102 to R105, R163). -/
def performTick (v : TickVerdict) (now : Time) (s : State) : State :=
  match v with
  | .dropped => setFlag .tickOverrun s
  | .disabled => s
  | .tooSoon => s
  | .accepted => acceptTick now s

/-- The response status of a TICK from the command port (R113). -/
def TickVerdict.status : TickVerdict → RspStatus
  | .dropped => .busy
  | .disabled => .ok
  | .tooSoon => .ok
  | .accepted => .ok

/-- The response data of a TICK from the command port (R113). -/
def TickVerdict.data : TickVerdict → Data
  | .dropped => 3#32
  | .disabled => 1#32
  | .tooSoon => 2#32
  | .accepted => 0#32

/-- TICK from the command port (R102, R113). -/
def execTick (now : Time) (s : State) : Host.Outcome State Fault Refusal :=
  let v := tickVerdict false now s
  .next (respond v.status v.data (performTick v now s))

/-- Position 4 of the cycle for a tick: in its commit cycle it makes its writes and leaves the unit
(R158, R160). -/
def commitTick (s : State) : State :=
  match s.tickFlight with
  | some t => if t.commitAt = s.cycle then applyTick t.snap { s with tickFlight := none } else s
  | none => s

end Sys2Proof.Machine
end

