-- ==== Sys2Proof/Machine/RegisterAccess.lean ====
section
/-! DEFINITION. Register access and housekeeping commands (43_register_access.md R125 to R132). -/

namespace Sys2Proof.Machine

/-- NOP (R126). -/
def execNop (s : State) : Host.Outcome State Fault Refusal :=
  .next (respond .ok 0#32 s)

/-- The configuration lock: while Enabled every register but IRQ_MASK is refused (R127, R136). -/
def cfgLocked (r : CfgReg) (s : State) : Bool := s.enabled && decide (r ≠ .irqMask)

/-- CFG_WRITE (R127): ILLEGAL before REJECTED before the write. -/
def execCfgWrite (idx : Idx) (data : Data) (s : State) : Host.Outcome State Fault Refusal :=
  match cfgRegAt idx with
  | none => .next (answerIllegal s)
  | some r =>
    if cfgLocked r s then .next (answerRejected s)
    else .next (respond .ok 0#32 { s with cfg := writeCfg r data s.cfg })

/-- CFG_READ (R129). -/
def execCfgRead (idx : Idx) (s : State) : Host.Outcome State Fault Refusal :=
  match cfgRegAt idx with
  | none => .next (answerIllegal s)
  | some r => .next (respond .ok (readCfg r s.cfg) s)

/-- STAT_READ (R130). -/
def execStatRead (idx : Idx) (s : State) : Host.Outcome State Fault Refusal :=
  match statRegAt idx with
  | none => .next (answerIllegal s)
  | some r => .next (respond .ok (statVal r s) s)

/-- CLEAR_FLAGS (R131). -/
def execClearFlags (mask : Data) (s : State) : Host.Outcome State Fault Refusal :=
  .next (respond .ok 0#32 { s with flags := clearedFlags s.flags (flagMask mask) })

end Sys2Proof.Machine
end

