-- ==== Sys2Proof/Machine/Dispatch.lean ====
section
/-! DEFINITION. One arm per command (30_encoding.md R71): its meaning at position 1 of the cycle that
accepts it (70_reset_and_hazards.md R158). -/

namespace Sys2Proof.Machine

def exec (i : Instr) (s : State) : Host.Outcome State Fault Refusal :=
  match i with
  | .nop => Sys2Proof.Machine.execNop s
  | .setTarget target => Sys2Proof.Machine.execSetTarget target s
  | .estop => Sys2Proof.Machine.execEstop s
  | .queryLength => Sys2Proof.Machine.execQueryLength s
  | .tick now => Sys2Proof.Machine.execTick now s
  | .cfgWrite idx data => Sys2Proof.Machine.execCfgWrite idx data s
  | .cfgRead idx => Sys2Proof.Machine.execCfgRead idx s
  | .statRead idx => Sys2Proof.Machine.execStatRead idx s
  | .clearFlags mask => Sys2Proof.Machine.execClearFlags mask s

end Sys2Proof.Machine
end

