-- ==== Sys2Proof/Machine/Cycle.lean ====
section
/-! DEFINITION. The positions of one clock cycle (70_reset_and_hazards.md R152 to R164): the command port,
the emergency-stop pin, the tick port, the commits, and the passage to the next cycle. -/

namespace Sys2Proof.Machine

/-- The response register and `enc_strobe` are 0 after the edge unless this cycle loads them
(R60, R64). -/
def beginCycle (s : State) : State :=
  { s with rspValid := false, rspStatus := 0#2, rspData := 0#32, encStrobe := false }

/-- A command word is performed: the command it spells, or the ILLEGAL answer (R75, R135). -/
def perform (w : CommandWord) (s : State) : Host.Outcome State Fault Refusal :=
  match decode w with
  | .command i => exec i s
  | .illegal _ => .next (answerIllegal s)

/-- Position 1: the command accepted on the command port, if any (R61, R158). -/
def commandPort (s : State) : Host.Outcome State Fault Refusal :=
  if s.accepts then perform s.pins.cmdWord s else .next s

/-- The command port accepts in this cycle a TICK that passes its checks (R163); a stop pin in between does
not change that. DEDUCED, unsafe for TICK_OVERRUN (log 8). -/
def commandTakesTick (s : State) : Bool :=
  s.accepts &&
    match decode s.pins.cmdWord with
    | .command (.tick now) => tickVerdict false now s == .accepted
    | _ => false

/-- Position 2: the emergency-stop pin (R67, R158). -/
def stopPin (s : State) : State := if s.pins.estopReq then eStopEffect s else s

/-- Position 3: the tick-port request, which has no response (R66, R158). -/
def tickPort (taken : Bool) (s : State) : State :=
  if s.pins.tickValid then performTick (tickVerdict taken s.pins.tickNow s) s.pins.tickNow s else s

/-- Position 4: the commits of this cycle (R158, R160). -/
def commits (s : State) : State := commitQuery (commitTick s)

/-- Positions 2 to 4 of a cycle, after the command port (R158). -/
def afterCommand (taken : Bool) (s : State) : State := commits (tickPort taken (stopPin s))

/-- The ports in the cycle after the last presented one: nothing is asked of the block, but a word that
was not accepted is held (R61), and the encoder level is a free value (R11). DESIGN CHOICE, unsafe
(log 2, log 3). -/
def unpresentedPins (s : State) : PortInputs :=
  let stalled := s.pins.cmdValid && !s.cmdReady
  { PortInputs.idle (Config.encDraw (s.cycle + 1)) with
    cmdValid := stalled
    cmdWord := if stalled then s.pins.cmdWord else 0#40 }

/-- The ports of the next cycle: what the environment presents (R157). -/
def nextPins (s : State) : PortInputs :=
  match s.stimulus with
  | p :: _ => p
  | [] => unpresentedPins s

/-- The closing edge of a cycle, which began as `start` and whose operations left `s`: the next cycle's
port values are presented (R157). -/
def closeCycle (start s : State) : State :=
  { s with cycle := start.cycle + 1, pins := nextPins start, stimulus := start.stimulus.tail }

/-- An edge that sees `rst = 1`: the reset state, whatever else is presented (R152 to R154). -/
def resetCycle (start : State) : State :=
  State.resetWith start.build (start.cycle + 1) (nextPins start) start.stimulus.tail

end Sys2Proof.Machine
end

