-- ==== Sys2Proof/Machine/Ports.lean ====
section
/-! DEFINITION. The output ports of the block (30_encoding.md R59 to R68) as functions of its state. -/

namespace Sys2Proof.Machine

/-- The values on the output ports in one cycle (R59). -/
structure PortOutputs where
  cmdReady : Bool
  rspValid : Bool
  rspStatus : BitVec 2
  rspData : Data
  encStrobe : Bool
  pwmA : Level
  pwmB : Level
  diagIrq : Bool
deriving DecidableEq, Repr

/-- The output ports as functions of registered state only, as R59 words them: no input port is read. -/
def State.registeredOutputs (s : State) : PortOutputs where
  cmdReady := s.portFree
  rspValid := s.rspValid
  rspStatus := s.rspStatus
  rspData := s.rspData
  encStrobe := s.encStrobe
  pwmA := s.pwmA
  pwmB := s.pwmB
  diagIrq := diagIrq s

/-- What `rst = 1` does to the ports in its own cycle: `cmd_ready` is 0, so no command is accepted, and a
response due in it is not presented (R61, R152, R154, R155); in a cycle with no response `rsp_valid`,
`rsp_status` and `rsp_data` are 0 (R64). -/
def PortOutputs.underReset (p : PortOutputs) : PortOutputs :=
  { p with cmdReady := false, rspValid := false, rspStatus := 0#2, rspData := 0#32 }

/-- The output ports in the current cycle: those of R59, but for the command port while `rst = 1`,
where R61, R64, R152, R154 and R155 name levels that R59's words exclude. DEDUCED, unsafe (log 7). -/
def State.outputs (s : State) : PortOutputs :=
  if s.pins.rst then s.registeredOutputs.underReset else s.registeredOutputs

end Sys2Proof.Machine
end

