-- ==== Sys2Proof/Machine/Step.lean ====
section
/-! DEFINITION. One step is one clock cycle (70_reset_and_hazards.md R157, R158; log 1). -/

namespace Sys2Proof.Machine

/-- One clock cycle: reset, or the four positions of R158 in order (R152, R157). -/
def step (s : State) : Host.Outcome State Fault Refusal :=
  if s.pins.rst then .next (resetCycle s)
  else
    match commandPort (beginCycle s) with
    | .next c => .next (closeCycle s (afterCommand (commandTakesTick (beginCycle s)) c))
    | .fault r => .fault r
    | .refused r => .refused r

/-- `s` with the command whose bits are `w` presented on the command port of the current cycle, so that
the next step accepts and performs it: `rst` is 0, and no QUERY_LENGTH holds `cmd_ready` at 0
(R61; log 11). -/
def State.withFetchWord (s : State) (nbits w : Nat) : State :=
  { s with
    pins := { s.pins with rst := false, cmdValid := true, cmdWord := tableWord nbits w }
    queryFlight := none }

end Sys2Proof.Machine
end

