-- ==== Sys2Proof/Machine/Assembler.lean ====
section
/-! DEFINITION. The assembler notation of a command stream (30_encoding.md R77 to R81): source lines, the
pseudo-instructions and their expansion, and the ports of one cycle. The block sees only the words.

Spelling details R77 leaves open (white space, the decimal point, one error per line) are DESIGN CHOICES,
safe: nothing in the machine depends on them (log 16). -/

namespace Sys2Proof.Machine.Asm

open Sys2Proof.Config

/-- Why a line does not assemble (R77, R80). -/
inductive AsmError where
  /-- No mnemonic of R77 or R80. -/
  | unknownMnemonic
  /-- Too few or too many operands, or one of the wrong kind. -/
  | badOperands
  /-- An operand, or the rounded value of one, above 2^32 - 1. -/
  | operandTooWide
  /-- A negative argument of a pseudo-instruction. -/
  | negativeArgument
deriving DecidableEq, Repr

/-- One line of a command stream (R77). -/
inductive Item where
  | command (i : Instr)
  /-- `@TICK <u32>`: a request on the tick port. -/
  | tickPort (now : Time)
  /-- `@ESTOP`: a pulse on the emergency-stop pin. -/
  | stopPin
  /-- `@CYCLE`: the operations after it belong to the next cycle. -/
  | nextCycle
deriving DecidableEq, Repr

/-- An exact decimal number `mantissa / 10^places`. -/
structure Decimal where
  mantissa : Int
  places : Nat
deriving DecidableEq, Repr

/-- `round_half_up(x * scale) = floor(x * scale + 1/2)` (R80). -/
def roundHalfUp (x : Decimal) (scale : Nat) : Int :=
  (2 * x.mantissa * scale + 10 ^ x.places) / (2 * 10 ^ x.places)

/-- The operand of a scaled pseudo-instruction, or the assembly error (R80). -/
def scaledOperand (x : Decimal) (scale : Nat) : Except AsmError Data :=
  if x.mantissa < 0 then .error .negativeArgument
  else if 2 ^ 32 ≤ roundHalfUp x scale then .error .operandTooWide
  else .ok (BitVec.ofInt 32 (roundHalfUp x scale))

/-- The registers SET_LEN may name (R80). -/
inductive LengthReg where
  | l1
  | l2
  | lmin
  | lmax
deriving DecidableEq, Repr

/-- The configuration index of a length register (R78). -/
def LengthReg.index : LengthReg → Idx
  | .l1 => 1#4
  | .l2 => 2#4
  | .lmin => 5#4
  | .lmax => 6#4

/-- The pseudo-instructions (R80). -/
inductive Pseudo where
  | stop
  | setTargetM (metres : Decimal)
  | setGain (perMetre : Decimal)
  | setLen (reg : LengthReg) (metres : Decimal)
  | setStyle (style : KinStyle) (policy : FaultPolicy)
  | clearAll
  | readFlags
  | readStatus
deriving DecidableEq, Repr

/-- The command a pseudo-instruction stands for (R80). -/
def Pseudo.expand : Pseudo → Except AsmError Instr
  | .stop => .ok .estop
  | .setTargetM metres => (scaledOperand metres 65536).map .setTarget
  | .setGain perMetre => (scaledOperand perMetre 4096).map (.cfgWrite 7#4)
  | .setLen reg metres => (scaledOperand metres 65536).map (.cfgWrite reg.index)
  | .setStyle style policy =>
    .ok (.cfgWrite 0#4 ((faultPolicyBit policy ++ kinStyleBit style).setWidth 32))
  | .clearAll => .ok (.clearFlags 0x3F#32)
  | .readFlags => .ok (.statRead 1#4)
  | .readStatus => .ok (.statRead 0#4)

/-- The word of a pseudo-instruction: that of its expansion (R79, R80). -/
def Pseudo.word (p : Pseudo) : Except AsmError CommandWord := p.expand.map encode

/-- The place of an operation in the intra-cycle order (R158); `@CYCLE` is no operation. -/
def Item.position : Item → Nat
  | .nextCycle => 0
  | .command _ => 1
  | .stopPin => 2
  | .tickPort _ => 3

/-- Put one operation of a cycle on the ports (R66, R67, R77). -/
def Item.onPorts (item : Item) (p : PortInputs) : PortInputs :=
  match item with
  | .command i => { p with cmdValid := true, cmdWord := encode i }
  | .tickPort now => { p with tickValid := true, tickNow := now }
  | .stopPin => { p with estopReq := true }
  | .nextCycle => p

/-- The ports of a cycle in which the given operations are presented, with the encoder at `raw`. A cycle that
`cyclesOf` makes holds at most one operation for each port, so that none displaces another. -/
def portsOf (items : List Item) (raw : AngleCode) : PortInputs :=
  items.foldl (fun p item => item.onPorts p) (PortInputs.idle raw)

/-- The operations of a stream that still belong to the open cycle, and the cycles after it. `last` is the
place of the open cycle's last operation when a `@CYCLE` opened it, and absent for a cycle of one operation.
An operation joins an open cycle only at a later place than `last`, and a `@CYCLE` with no operation after it,
before another `@CYCLE` or the end of the stream, is an idle cycle that passes (DESIGN CHOICE, safe, log 16). -/
def splitCycles : Option Nat → List Item → List Item × List (List Item)
  | _, [] => ([], [])
  | _, .nextCycle :: rest =>
    let later := splitCycles (some 0) rest
    ([], later.1 :: later.2)
  | none, item :: rest =>
    let later := splitCycles none rest
    ([], (item :: later.1) :: later.2)
  | some last, item :: rest =>
    if last < item.position then
      let later := splitCycles (some item.position) rest
      (item :: later.1, later.2)
    else
      let later := splitCycles none rest
      ([], (item :: later.1) :: later.2)

/-- The operations of a stream, cycle by cycle (R77). The spec leaves open which operations share a cycle
where no `@CYCLE` stands between them (R77: "where the cycle matters"). DESIGN CHOICE, safe (log 16): each
operation is a cycle of its own (95_test_vectors.md section 3), but those after a `@CYCLE` share one cycle as
long as they come in the order command, `@ESTOP`, `@TICK`, one of each at most. No operation is dropped. It
leaves open too whether a cycle passes for a `@CYCLE` with no operation after it. DESIGN CHOICE, safe (log 16):
one does, an idle cycle. -/
def cyclesOf (items : List Item) : List (List Item) := (splitCycles none items).2

/-- The port values of a stream's cycles, with the encoder at `raw n` in the stream's n-th cycle (R77). -/
def stimulusOf (items : List Item) (raw : Nat → AngleCode) : List PortInputs :=
  (cyclesOf items).zipIdx.map fun cycle => portsOf cycle.1 (raw cycle.2)

/-- A word, a number or a comma of a source line, in capitals. -/
abbrev Token := List Char

/-- A finished token, unless nothing was read. -/
def flush (read : Token) : List Token := if read.isEmpty then [] else [read]

/-- Split a line into tokens: white space separates, a comma stands alone, `;` starts a comment, letters
are read in capitals (R77: case-insensitive). `read` is the token being read. -/
def tokens : List Char → Token → List Token
  | [], read => flush read
  | c :: rest, read =>
    if c = ';' then flush read
    else if c = ',' then flush read ++ [','] :: tokens rest []
    else if c.isWhitespace then flush read ++ tokens rest []
    else tokens rest (read ++ [c.toUpper])

/-- The value of a digit in a base. -/
def digit (base : Nat) (c : Char) : Option Nat :=
  let v := if c.isDigit then c.toNat - '0'.toNat else c.toNat - 'A'.toNat + 10
  if (c.isDigit || c.isUpper) && decide (v < base) then some v else none

/-- The number a digit string spells after `value`. -/
def digits (base : Nat) : Token → Nat → Option Nat
  | [], value => some value
  | c :: rest, value => (digit base c).bind fun v => digits base rest (value * base + v)

/-- A number, decimal or `0x` hexadecimal (R77). -/
def number : Token → Option Nat
  | [] => none
  | ['0', 'X'] => none
  | '0' :: 'X' :: rest => digits 16 rest 0
  | t => digits 10 t 0

/-- A `<u32>` operand; one that does not fit in 32 bits is an assembly error (R77). -/
def u32 (t : Token) : Except AsmError Data :=
  match number t with
  | none => .error .badOperands
  | some n => if n < 2 ^ 32 then .ok (BitVec.ofNat 32 n) else .error .operandTooWide

/-- The digits of `t` on both sides of its decimal point, if it has one. -/
def splitPoint (t : Token) : Token × Token :=
  (t.takeWhile (· ≠ '.'), (t.dropWhile (· ≠ '.')).drop 1)

/-- A number without a sign: one of R77, or decimal digits with a point after them (the form is a DESIGN CHOICE,
safe, log 16). -/
def unsignedDecimal (t : Token) : Except AsmError Decimal :=
  let parts := splitPoint t
  match number t, parts.1, digits 10 (parts.1 ++ parts.2) 0 with
  | some n, _, _ => .ok ⟨(n : Int), 0⟩
  | none, [], _ => .error .badOperands
  | none, _, none => .error .badOperands
  | none, _, some m => .ok ⟨(m : Int), parts.2.length⟩

/-- The metres or gain argument of a pseudo-instruction (R80). -/
def decimal : Token → Except AsmError Decimal
  | '-' :: t => (unsignedDecimal t).map fun d => ⟨-d.mantissa, d.places⟩
  | t => unsignedDecimal t

/-- The names of the configuration registers, by index (R78). -/
def cfgNames : List String :=
  ["CTRL_CFG", "L1", "L2", "OFFSET", "ANCHOR", "LMIN", "LMAX", "KP"] ++
  ["DUTY_FS", "MIN_PERIOD", "IRQ_MASK"]

/-- The names of the status registers, by index (R78). -/
def statNames : List String :=
  ["STATUS", "FLAGS", "TARGET", "DUTY", "PWM_A", "PWM_B", "LAST_LENGTH", "LAST_UPDATE"] ++
  ["TICK_COUNT", "LAST_RAW", "ID"]

/-- The position of a token among names, counted from `at`. -/
def nameIndex : List String → Nat → Token → Option Nat
  | [], _, _ => none
  | n :: rest, k, t => if n.toList = t then some k else nameIndex rest (k + 1) t

/-- A register name or its index 0..15 (R77). -/
def register (names : List String) (t : Token) : Except AsmError Idx :=
  match nameIndex names 0 t with
  | some k => .ok (BitVec.ofNat 4 k)
  | none =>
    match number t with
    | some n => if n < 16 then .ok (BitVec.ofNat 4 n) else .error .badOperands
    | none => .error .badOperands

/-- The register operand of SET_LEN (R80): a `<cfg>` of R77 that names a length register. The spec leaves open
whether it may be given by its index. DESIGN CHOICE, safe (log 16): it may, as every `<cfg>` may, so that 1, 2,
5 and 6 are taken beside the four names. -/
def lengthReg (t : Token) : Except AsmError LengthReg :=
  match register cfgNames t with
  | .error e => .error e
  | .ok idx =>
    match [LengthReg.l1, .l2, .lmin, .lmax].find? (·.index = idx) with
    | some r => .ok r
    | none => .error .badOperands

/-- The style operand of SET_STYLE (R80). -/
def styleOf (t : Token) : Except AsmError KinStyle :=
  if t = "ANCHOR".toList then .ok .anchor
  else if t = "CLAMP".toList then .ok .clamp
  else .error .badOperands

/-- The policy operand of SET_STYLE (R80). -/
def policyOf (t : Token) : Except AsmError FaultPolicy :=
  if t = "ZERO".toList then .ok .zero
  else if t = "HOLD".toList then .ok .hold
  else .error .badOperands

/-- The mnemonics of the notation, each with the number of its operands (R77, R80). -/
inductive Mnemonic where
  | plain (i : Instr)
  | abbreviation (p : Pseudo)
  | item (it : Item)
  | withU32 (f : Data → Item)
  | withCfg
  | withStat
  | withCfgData
  | withDecimal (f : Decimal → Pseudo)
  | withLength
  | withStyle

/-- What a mnemonic expects (R77, R80). -/
def mnemonics : List (String × Mnemonic) :=
  [("NOP", .plain .nop), ("ESTOP", .plain .estop), ("QUERY_LENGTH", .plain .queryLength),
   ("SET_TARGET", .withU32 fun d => .command (.setTarget d)),
   ("TICK", .withU32 fun d => .command (.tick d)),
   ("CLEAR_FLAGS", .withU32 fun d => .command (.clearFlags d)),
   ("CFG_WRITE", .withCfgData), ("CFG_READ", .withCfg), ("STAT_READ", .withStat)] ++
  [("STOP", .abbreviation .stop), ("CLEAR_ALL", .abbreviation .clearAll),
   ("READ_FLAGS", .abbreviation .readFlags), ("READ_STATUS", .abbreviation .readStatus),
   ("SET_TARGET_M", .withDecimal .setTargetM), ("SET_GAIN", .withDecimal .setGain),
   ("SET_LEN", .withLength), ("SET_STYLE", .withStyle)] ++
  [("@TICK", .withU32 .tickPort), ("@ESTOP", .item .stopPin), ("@CYCLE", .item .nextCycle)]

/-- The entry of a mnemonic. -/
def lookup : List (String × Mnemonic) → Token → Option Mnemonic
  | [], _ => none
  | (n, m) :: rest, t => if n.toList = t then some m else lookup rest t

/-- The item a pseudo-instruction assembles to. -/
def expanded (p : Pseudo) : Except AsmError Item := p.expand.map .command

/-- The item a mnemonic and its operand tokens assemble to (R77, R80). -/
def assemble (m : Mnemonic) (operands : List Token) : Except AsmError Item :=
  match m, operands with
  | .plain i, [] => .ok (.command i)
  | .abbreviation p, [] => expanded p
  | .item it, [] => .ok it
  | .withU32 f, [a] => (u32 a).map f
  | .withCfg, [a] => (register cfgNames a).map fun i => .command (.cfgRead i)
  | .withStat, [a] => (register statNames a).map fun i => .command (.statRead i)
  | .withCfgData, [a, [','], b] => do
    let i ← register cfgNames a
    let d ← u32 b
    return .command (.cfgWrite i d)
  | .withDecimal f, [a] => do
    let d ← decimal a
    expanded (f d)
  | .withLength, [a, [','], b] => do
    let r ← lengthReg a
    let d ← decimal b
    expanded (.setLen r d)
  | .withStyle, [a, [','], b] => do
    let k ← styleOf a
    let p ← policyOf b
    expanded (.setStyle k p)
  | _, _ => .error .badOperands

/-- One source line: nothing (blank or comment only), or one item (R77). -/
def assembleLine (line : List Char) : Except AsmError (Option Item) :=
  match tokens line [] with
  | [] => .ok none
  | t :: operands =>
    match lookup mnemonics t with
    | none => .error .unknownMnemonic
    | some m => (assemble m operands).map some

end Sys2Proof.Machine.Asm
end

