-- ==== Sys2Proof/Safety.lean ====
section
/-! DEFINITION. What counts as a safe state and a well-behaved host, in the terms the statements use. -/

namespace Sys2Proof.Safety

open Sys2Proof.Machine

/-- Zero duty on both channels (R34, R122). -/
def ChannelsOff (s : State) : Prop := s.duty = 0#16 ∧ s.pwmA = 0#15 ∧ s.pwmB = 0#15

/-- The invariant of R41: while Disabled the channels are off; at most one channel is driven; the duty
is within 16-bit symmetric range. -/
def OutputsSafe (s : State) : Prop :=
  (s.enabled = false → ChannelsOff s) ∧
  (s.pwmA = 0#15 ∨ s.pwmB = 0#15) ∧
  (-32767 ≤ s.duty.toInt ∧ s.duty.toInt ≤ 32767)

/-- A tick in flight belongs to an enabled controller: a stop would have cancelled it (R101, R164). -/
def FlightEnabled (s : State) : Prop := s.tickFlight.isSome = true → s.enabled = true

/-- The two configurations agree but for IRQ_MASK, the one register the configuration lock leaves
writable (R52, R127). -/
def AgreeButMask (c d : CfgRegs) : Prop := { c with irqMask := d.irqMask } = d

/-- The snapshot of a tick in flight holds the locked configuration (R132). -/
def SnapshotCurrent (s : State) : Prop := ∀ t, s.tickFlight = some t → AgreeButMask t.snap.cfg s.cfg

/-- The last duty is within the full scale in force (R110). -/
def DutyWithinScale (s : State) : Prop :=
  -(s.cfg.dutyFs.toNat : Int) ≤ s.duty.toInt ∧ s.duty.toInt ≤ (s.cfg.dutyFs.toNat : Int)

/-- While Enabled the target is what the limits in force clamp it to (R31, R99). -/
def TargetWithinLimits (s : State) : Prop :=
  s.enabled = true →
    clampNat s.target.toNat s.cfg.lmin.toNat s.cfg.lmax.toNat = s.target.toNat

/-- An operation in flight commits in this cycle or a later one, less than `T_LAT - 1` cycles from now
(R160); a QUERY_LENGTH in flight with a tick commits with it, unless the tick pre-empted it, and then
answers before the tick commits (R162). -/
def FlightsTimely (s : State) : Prop :=
  (∀ t, s.tickFlight = some t →
    s.cycle ≤ t.commitAt ∧ t.commitAt < s.cycle + s.build.extraLatency) ∧
  (∀ q, s.queryFlight = some q →
    s.cycle ≤ q.commitAt ∧ q.commitAt < s.cycle + s.build.extraLatency) ∧
  (∀ t q, s.tickFlight = some t → s.queryFlight = some q →
    if q.cancelled then q.commitAt < t.commitAt
    else q.commitAt = t.commitAt ∧ q.raw = t.snap.raw)

/-- A tick at time `now` passes its checks, with the controller enabled as given: no tick occupies the unit,
Enabled, and the minimum period has elapsed (R103, R104, R163). -/
def TickPasses (s : State) (enabled : Bool) (now : Time) : Prop :=
  s.tickFlight = none ∧ enabled = true ∧
    (s.cfg.minPeriod.toNat : Int) ≤ ((now.toNat : Int) - s.lastUpdate.toNat) % 2 ^ 32

/-- The controller is Enabled after the command port's position of the cycle: only SET_TARGET and ESTOP change
it there (R97, R158). -/
def enabledAfterCommand (s : State) : Bool :=
  if s.accepts then
    match decode s.pins.cmdWord with
    | .command (.setTarget _) => true
    | .command .estop => false
    | _ => s.enabled
  else s.enabled

/-- The cycle contains an emergency stop, by pin or by command (R67, R100). -/
def StopsInCycle (s : State) : Prop :=
  s.pins.estopReq = true ∨ (s.accepts = true ∧ decode s.pins.cmdWord = .command .estop)

/-- The host keeps a word that was not accepted on the command port (R61): an obligation of the
environment, which the block does not enforce. -/
def HostHolds (s : State) : Prop :=
  s.pins.cmdValid = true → s.cmdReady = false →
    ∀ p, s.stimulus.head? = some p → p.cmdValid = true ∧ p.cmdWord = s.pins.cmdWord

/-- The cycle applies a tick, with the given fault (R112, R114). -/
def AppliesTick (s : State) (fault : Bool) : Prop :=
  s.pins.rst = false ∧
    ∃ t, step s = .next t ∧ t.tickCount = s.tickCount + 1#32 ∧ t.lastTickFault = fault

/-- In the run from `s` the host resumes control after an emergency stop or a kinematic fault only by a new
SET_TARGET: between it and the next tick that is applied without a fault a SET_TARGET is accepted (R144). After a
stop the block enforces it, being Disabled; after a fault it is an obligation of the environment, which the
block, still Enabled, does not enforce (R30, R97; log 22). -/
def HostResumesByTarget (s : State) : Prop :=
  ∀ (j n : Nat) (u v : State), j < n → core.run j s = .next u → core.run n s = .next v →
    (StopsInCycle u ∨ AppliesTick u true) → AppliesTick v false →
    ∃ (m : Nat) (w : State) (target : Data), j < m ∧ m ≤ n ∧ core.run m s = .next w ∧
      w.accepts = true ∧ decode w.pins.cmdWord = .command (.setTarget target)

/-- The host derived ANCHOR from the geometry and LMIN (R94): the joint angle of the minimum length, in code
steps, rounded half up. The block does not compute it and does not check it. -/
def AnchorDerived (c : CfgRegs) : Prop :=
  let l1 := (c.l1.toNat : ℝ)
  let l2 := (c.l2.toNat : ℝ)
  let lmin := (c.lmin.toNat : ℝ)
  0 < l1 ∧ 0 < l2 ∧ |l1 - l2| ≤ lmin ∧ lmin ≤ l1 + l2 ∧
    (c.anchor.toNat : ℤ) =
      ⌊Real.arccos ((l1 ^ 2 + l2 ^ 2 - lmin ^ 2) / (2 * l1 * l2)) * 1024 / (2 * Real.pi) + 1 / 2⌋

/-- The registers of R17 alone: everything that is in flight, on a port or the model's own is put at one
fixed value, so that two states can be compared register by register. -/
def registersOf (s : State) : State :=
  { State.resetWith Config.Params.default 0 (PortInputs.idle 0#10) [] with
    cfg := s.cfg
    enabled := s.enabled
    target := s.target
    lastUpdate := s.lastUpdate
    duty := s.duty
    pwmA := s.pwmA
    pwmB := s.pwmB
    flags := s.flags
    lastTickFault := s.lastTickFault
    lastLength := s.lastLength
    lastRaw := s.lastRaw
    tickCount := s.tickCount }

/-- Nothing is asked of the block in the current cycle (R59). -/
def PortsIdle (s : State) : Prop :=
  s.pins.rst = false ∧ s.pins.cmdValid = false ∧ s.pins.tickValid = false ∧ s.pins.estopReq = false

end Sys2Proof.Safety
end

