-- ==== Sys2Proof/WellFormed.lean ====
section
/-! DEFINITION. The one check on a command as a term: the register it names exists.

DESIGN CHOICE (log 14), safe: every index 0..15 is a legal spelling (20_memory.md R48) and the decoder
accepts it; a command whose index is unmapped is answered ILLEGAL when it is executed (R127, R129,
R130). `wellFormed` names the commands that are not. -/

namespace Sys2Proof

/-- Indices 0 to 10 of the configuration and of the status space are mapped (R18, R39). -/
def Idx.mapped (i : Idx) : Bool := decide (i.toNat ≤ 10)

/-- The command names no unmapped register (R18, R39, R51). -/
def Instr.wellFormed : Instr → Bool
  | .nop => true
  | .setTarget _ => true
  | .estop => true
  | .queryLength => true
  | .tick _ => true
  | .cfgWrite idx _ => Idx.mapped idx
  | .cfgRead idx => Idx.mapped idx
  | .statRead idx => Idx.mapped idx
  | .clearFlags _ => true

end Sys2Proof
end

