-- ==== Sys2Proof/Certificates/Slice0/Obligations.lean ====
section
/-! DEFINITION. The statements for the provers, from the numbered rules of spec/. Each docstring names the
rule; a statement that rests on a choice of the model names its log entry. -/

open Sys2Proof Sys2Proof.Machine Sys2Proof.Safety

/-! Encoding (30_encoding.md). -/

/-- R62, R71: decoding the word of a command gives the command back, with every operand at every value,
unmapped indices included. -/
def Obligations.DecodeOfEncodeGivesCommandBack : Prop :=
  ∀ i : Instr, decode (encode i) = .command i

/-- R71, R74: a word that spells a command has that command's operation code and index, and its data
wherever the format uses DATA; where it does not, the emitted data is 0. -/
def Obligations.EncodeOfDecodeKeepsUsedFields : Prop :=
  ∀ (w : CommandWord) (i : Instr), decode w = .command i →
    opField (encode i) = opField w ∧ idxField (encode i) = idxField w ∧
    (match i with
      | .setTarget _ | .tick _ | .cfgWrite _ _ | .clearFlags _ => dataField (encode i) = dataField w
      | .nop | .estop | .queryLength | .cfgRead _ | .statRead _ => dataField (encode i) = 0#32)

/-- R75: a word is illegal exactly when its operation code is 0x9 or more, or its format is N or D and its
index is not 0; every other word is exactly one command, which takes `idx` and `w[31:0]`; a command that
names an unmapped register has the effect of a word that is illegal at decode. -/
def Obligations.DecodeIsTotalAndIllegalExactly : Prop :=
  ∀ w : CommandWord,
    ((∃ why, decode w = .illegal why) ↔
      (9 ≤ (opField w).toNat ∨
        ((opField w).toNat ∈ [0, 1, 2, 3, 4, 8] ∧ idxField w ≠ 0#4))) ∧
    (∀ i, decode w = .command i →
      i = match (opField w).toNat with
        | 0 => .nop
        | 1 => .setTarget (dataField w)
        | 2 => .estop
        | 3 => .queryLength
        | 4 => .tick (dataField w)
        | 5 => .cfgWrite (idxField w) (dataField w)
        | 6 => .cfgRead (idxField w)
        | 7 => .statRead (idxField w)
        | _ => .clearFlags (dataField w)) ∧
    (∀ (i : Instr) (v : CommandWord) (why : DecodeError) (s : State),
      decode w = .command i → i.wellFormed = false → decode v = .illegal why →
      perform w s = perform v s)

/-- R74: in formats N and I any `DATA` has the effect and the response of `DATA = 0`; the bits above a
written register's width and bits 31:6 of the mask of CLEAR_FLAGS are ignored. -/
def Obligations.UnusedDataIsIgnored : Prop :=
  (∀ (op : OpCode) (idx : Idx) (data : Data) (s : State), op.toNat ∈ [0, 2, 3, 6, 7] →
    decode (commandWord op idx data) = decode (commandWord op idx 0#32) ∧
    perform (commandWord op idx data) s = perform (commandWord op idx 0#32) s) ∧
  (∀ p ∈ [(0#4, 2), (1#4, 16), (2#4, 16), (3#4, 10), (4#4, 10), (5#4, 17), (6#4, 17), (7#4, 24),
      (8#4, 15), (9#4, 32), (10#4, 6)], ∀ (d e : Data) (s : State),
    d.toNat % 2 ^ p.2 = e.toNat % 2 ^ p.2 → exec (.cfgWrite p.1 d) s = exec (.cfgWrite p.1 e) s) ∧
  (∀ (d e : Data) (s : State), d.toNat % 2 ^ 6 = e.toNat % 2 ^ 6 →
    exec (.clearFlags d) s = exec (.clearFlags e) s)

/-- Words written out in 95_test_vectors.md section 2.1 and 43_register_access.md decode as listed there. -/
def Obligations.WrittenWordsDecode : Prop :=
  decode 0x0000000000#40 = .command .nop ∧
  decode 0x00FFFFFFFF#40 = .command .nop ∧
  decode 0x0100000000#40 = .illegal (.nonzeroIndex 0#4 1#4) ∧
  decode 0x1000003333#40 = .command (.setTarget 13107#32) ∧
  decode 0x2000000000#40 = .command .estop ∧
  decode 0x2F00000000#40 = .illegal (.nonzeroIndex 2#4 15#4) ∧
  decode 0x3000000000#40 = .command .queryLength ∧
  decode 0x4000000064#40 = .command (.tick 100#32) ∧
  decode 0x5700012800#40 = .command (.cfgWrite 7#4 75776#32) ∧
  decode 0x6F00000000#40 = .command (.cfgRead 15#4) ∧
  decode 0x7AFFFFFFFF#40 = .command (.statRead 10#4) ∧
  decode 0x800000003F#40 = .command (.clearFlags 0x3F#32) ∧
  decode 0xFFFFFFFFFF#40 = .illegal (.reservedOpcode 15#4)

/-! The step (70_reset_and_hazards.md). -/

/-- R61, R158: when the command port accepts a word that decodes to `i`, the step is `exec i` on the state
with its response register and strobe cleared, then the stop pin, the tick port, the commits, and the
passage to the next cycle. -/
def Obligations.StepRunsTheDecodedCommand : Prop :=
  ∀ (s c : State) (i : Instr),
    s.accepts = true → decode s.pins.cmdWord = .command i → exec i (beginCycle s) = .next c →
    step s = .next (closeCycle s
      (commits (tickPort (commandTakesTick (beginCycle s)) (stopPin c))))

/-- R13 "The block never halts": every step from every state answers a next state. -/
def Obligations.EveryStepAnswersNext : Prop :=
  ∀ s : State, ∃ t, step s = .next t

/-- R72, R73, R135: a word with a reserved operation code, with a nonzero index where the format has none,
or with an unmapped register index is answered ILLEGAL with data 0 and sets ILLEGAL_CMD; it has no other
effect. When it is accepted with nothing else asked and nothing in flight, every register else keeps its
value over the step. -/
def Obligations.IllegalWordOnlyFlagsAndAnswers : Prop :=
  ∀ w : CommandWord,
    (9 ≤ (opField w).toNat ∨ ((opField w).toNat ∈ [0, 1, 2, 3, 4, 8] ∧ idxField w ≠ 0#4) ∨
      ((opField w).toNat ∈ [5, 6, 7] ∧ 11 ≤ (idxField w).toNat)) →
    (∀ s : State, perform w s = .next
      { s with flags := s.flags ||| 0b001000#6, rspValid := true, rspStatus := 1#2, rspData := 0#32 }) ∧
    (∀ s : State, s.pins.rst = false → s.pins.cmdValid = true → s.pins.cmdWord = w →
      s.pins.estopReq = false → s.pins.tickValid = false → s.tickFlight = none → s.queryFlight = none →
      ∃ t, step s = .next t ∧ t.rspValid = true ∧ t.rspStatus = 1#2 ∧ t.rspData = 0#32 ∧
        t.encStrobe = false ∧ t.tickFlight = none ∧ t.queryFlight = none ∧
        registersOf t = registersOf { s with flags := s.flags ||| 0b001000#6 })

/-- R152, R153: an edge that sees `rst = 1` leaves the reset state, whatever else is presented and whatever
is in flight; the configuration takes the build's parameters. In that cycle no command is accepted and no
response is presented (R152's words; log 7 says how they stand to R59's). -/
def Obligations.ResetPinRestoresEverything : Prop :=
  ∀ s : State, s.pins.rst = true →
    s.cmdReady = false ∧ s.outputs.rspValid = false ∧
    ∃ t, step s = .next t ∧
      t.cfg.ctrlCfg = faultPolicyBit s.build.faultPolicy ++ kinStyleBit s.build.kinStyle ∧
      t.cfg.l1 = s.build.l1 ∧ t.cfg.l2 = s.build.l2 ∧ t.cfg.offset = s.build.offset ∧
      t.cfg.anchor = s.build.anchor ∧ t.cfg.lmin = s.build.lmin ∧ t.cfg.lmax = s.build.lmax ∧
      t.cfg.kp = s.build.kp ∧ t.cfg.dutyFs = s.build.dutyFs ∧
      t.cfg.minPeriod = s.build.minPeriod ∧ t.cfg.irqMask = 0#6 ∧
      t.enabled = false ∧ t.target = 0#17 ∧ t.lastUpdate = 0#32 ∧ t.duty = 0#16 ∧
      t.pwmA = 0#15 ∧ t.pwmB = 0#15 ∧ t.flags = 0#6 ∧ t.lastTickFault = false ∧
      t.lastLength = 0#17 ∧ t.lastRaw = 0#10 ∧ t.tickCount = 0#32 ∧
      t.busy = false ∧ t.qcancel = false ∧ t.tickFlight = none ∧ t.queryFlight = none ∧
      t.rspValid = false ∧ t.rspStatus = 0#2 ∧ t.rspData = 0#32 ∧ t.encStrobe = false ∧
      t.build = s.build

/-- R153, the default column: the values of every register in the state after reset; `diag_irq` is 0 and
the command port is ready (R155). -/
def Obligations.ResetStateHasTheSpecsValues : Prop :=
  State.reset.cfg.ctrlCfg = 0#2 ∧ State.reset.cfg.l1 = 13107#16 ∧ State.reset.cfg.l2 = 3604#16 ∧
  State.reset.cfg.offset = 0#10 ∧ State.reset.cfg.anchor = 0#10 ∧
  State.reset.cfg.lmin = 9503#17 ∧ State.reset.cfg.lmax = 16679#17 ∧
  State.reset.cfg.kp = 75776#24 ∧ State.reset.cfg.dutyFs = 1023#15 ∧
  State.reset.cfg.minPeriod = 0#32 ∧ State.reset.cfg.irqMask = 0#6 ∧
  State.reset.enabled = false ∧ State.reset.target = 0#17 ∧ State.reset.lastUpdate = 0#32 ∧
  ChannelsOff State.reset ∧ State.reset.flags = 0#6 ∧ State.reset.lastTickFault = false ∧
  State.reset.lastLength = 0#17 ∧ State.reset.lastRaw = 0#10 ∧ State.reset.tickCount = 0#32 ∧
  State.reset.busy = false ∧ State.reset.qcancel = false ∧
  State.reset.rspValid = false ∧ State.reset.rspStatus = 0#2 ∧ State.reset.rspData = 0#32 ∧
  State.reset.encStrobe = false ∧ diagIrq State.reset = false ∧ State.reset.cmdReady = true ∧
  State.reset.build.tLat = 1

/-! Register access (43_register_access.md). -/

/-- R126, pseudocode: NOP answers OK with data 0 and changes nothing else. -/
def Obligations.NopAnswersOkAndChangesNothing : Prop :=
  ∀ s : State,
    exec .nop s = .next { s with rspValid := true, rspStatus := 0#2, rspData := 0#32 }

/-- R127, R128: a CFG_WRITE to a mapped register, while Disabled or to IRQ_MASK, keeps the low bits of
DATA of the register's width, as R128 tables it; every other register and the rest of the state keep their
values. -/
def Obligations.CfgWriteKeepsTheLowBits : Prop :=
  ∀ p ∈ [(0#4, CfgReg.ctrlCfg, 2), (1#4, .l1, 16), (2#4, .l2, 16), (3#4, .offset, 10),
      (4#4, .anchor, 10), (5#4, .lmin, 17), (6#4, .lmax, 17), (7#4, .kp, 24), (8#4, .dutyFs, 15),
      (9#4, .minPeriod, 32), (10#4, .irqMask, 6)], ∀ (data : Data) (s : State),
    (s.enabled = false ∨ p.1 = 10#4) →
    ∃ t, exec (.cfgWrite p.1 data) s = .next t ∧
      (readCfg p.2.1 t.cfg).toNat = data.toNat % 2 ^ p.2.2 ∧
      (∀ r, r ≠ p.2.1 → readCfg r t.cfg = readCfg r s.cfg) ∧
      t = { s with cfg := t.cfg, rspValid := true, rspStatus := 0#2, rspData := 0#32 }

/-- R136: a CFG_WRITE to an index of 0..9 while Enabled is answered REJECTED with data 0, sets
CFG_REJECTED, and changes no configuration register and nothing else. -/
def Obligations.CfgWriteWhileEnabledIsRejected : Prop :=
  ∀ (idx : Idx) (data : Data) (s : State), idx.toNat ≤ 9 → s.enabled = true →
    exec (.cfgWrite idx data) s = .next
      { s with
        flags := s.flags ||| 0b010000#6
        rspValid := true
        rspStatus := 2#2
        rspData := 0#32 }

/-- R127, R129, R130, R135: a register command with an unmapped index is answered ILLEGAL with data 0,
also while Enabled, sets ILLEGAL_CMD and changes nothing else. -/
def Obligations.UnmappedIndexIsIllegal : Prop :=
  ∀ (idx : Idx) (data : Data) (s : State), 11 ≤ idx.toNat →
    exec (.cfgWrite idx data) s = .next
      { s with flags := s.flags ||| 0b001000#6, rspValid := true, rspStatus := 1#2, rspData := 0#32 } ∧
    exec (.cfgRead idx) s = .next
      { s with flags := s.flags ||| 0b001000#6, rspValid := true, rspStatus := 1#2, rspData := 0#32 } ∧
    exec (.statRead idx) s = .next
      { s with flags := s.flags ||| 0b001000#6, rspValid := true, rspStatus := 1#2, rspData := 0#32 }

/-- R129, R18 to R29: CFG_READ of each mapped index answers OK with the register, zero-extended, and
changes nothing else. -/
def Obligations.CfgReadReturnsTheRegister : Prop :=
  ∀ s : State, ∀ p ∈ [(0#4, s.cfg.ctrlCfg.toNat), (1#4, s.cfg.l1.toNat), (2#4, s.cfg.l2.toNat),
      (3#4, s.cfg.offset.toNat), (4#4, s.cfg.anchor.toNat), (5#4, s.cfg.lmin.toNat),
      (6#4, s.cfg.lmax.toNat), (7#4, s.cfg.kp.toNat), (8#4, s.cfg.dutyFs.toNat),
      (9#4, s.cfg.minPeriod.toNat), (10#4, s.cfg.irqMask.toNat)],
    ∃ t, exec (.cfgRead p.1) s = .next t ∧ t.rspData.toNat = p.2 ∧
      t = { s with rspValid := true, rspStatus := 0#2, rspData := t.rspData }

/-- R39: STAT_READ of each mapped index answers OK with the register, zero-extended but for DUTY, which is
sign-extended, and changes nothing else; of an unmapped index it answers ILLEGAL. -/
def Obligations.StatReadReturnsTheRegister : Prop :=
  (∀ (s : State) (idx : Idx), 11 ≤ idx.toNat →
    ∃ t, exec (.statRead idx) s = .next t ∧ t.rspValid = true ∧ t.rspStatus = 1#2) ∧
  ∀ s : State, ∀ p ∈ [(0#4, ((statusWord s).toNat : Int)), (1#4, (s.flags.toNat : Int)),
      (2#4, (s.target.toNat : Int)), (3#4, s.duty.toInt), (4#4, (s.pwmA.toNat : Int)),
      (5#4, (s.pwmB.toNat : Int)), (6#4, (s.lastLength.toNat : Int)),
      (7#4, (s.lastUpdate.toNat : Int)), (8#4, (s.tickCount.toNat : Int)),
      (9#4, (s.lastRaw.toNat : Int)), (10#4, 0x42414D01)],
    ∃ t, exec (.statRead p.1) s = .next t ∧ t.rspData = BitVec.ofInt 32 p.2 ∧
      t = { s with rspValid := true, rspStatus := 0#2, rspData := t.rspData }

/-- R40: the STATUS word is ENABLED in bit 0, BUSY in bit 1, LAST_TICK_FAULT in bit 2, `diag_irq` in bit 3,
and 0 above. -/
def Obligations.StatusWordHasItsFourBits : Prop :=
  ∀ s : State,
    (statusWord s).getLsbD 0 = s.enabled ∧ (statusWord s).getLsbD 1 = s.busy ∧
    (statusWord s).getLsbD 2 = s.lastTickFault ∧ (statusWord s).getLsbD 3 = diagIrq s ∧
    ∀ n, 4 ≤ n → (statusWord s).getLsbD n = false

/-- R131: CLEAR_FLAGS clears exactly the flags of `DATA[5:0]`, whatever `DATA[31:6]` is, answers OK with
data 0, and changes nothing else. -/
def Obligations.ClearFlagsClearsTheMaskedFlags : Prop :=
  ∀ (mask : Data) (s : State), ∃ t, exec (.clearFlags mask) s = .next t ∧
    (∀ n, n < 6 → t.flags.getLsbD n = (s.flags.getLsbD n && !mask.getLsbD n)) ∧
    t = { s with flags := t.flags, rspValid := true, rspStatus := 0#2, rspData := 0#32 }

/-- R125: NOP, CFG_WRITE, CFG_READ, STAT_READ and CLEAR_FLAGS answer in their own cycle and touch only the
configuration, the flags and the response register. -/
def Obligations.HousekeepingTouchesOnlyRegistersAndFlags : Prop :=
  ∀ (i : Instr) (s : State),
    (match i with
      | .nop | .cfgWrite _ _ | .cfgRead _ | .statRead _ | .clearFlags _ => True
      | .setTarget _ | .estop | .queryLength | .tick _ => False) →
    ∃ t, exec i s = .next t ∧
      t = { s with
        cfg := t.cfg
        flags := t.flags
        rspValid := true
        rspStatus := t.rspStatus
        rspData := t.rspData }

/-! Flags and the diagnostic interrupt (60_exceptions.md). -/

/-- R140: SetFlag sets its bit and no other; a set flag stays 1 over every cycle without a reset and
without an accepted CLEAR_FLAGS whose mask has its bit; in a cycle that accepts a CLEAR_FLAGS, a flag that
the rest of the cycle sets (`u`: the same cycle begun with no flag set) is 1 afterwards, whatever the
mask. -/
def Obligations.FlagsAreStickyAndSetWins : Prop :=
  [Flag.kinFault, .targetClamped, .tickOverrun, .illegalCmd, .cfgRejected, .tickAborted].map
    Flag.position = [0, 1, 2, 3, 4, 5] ∧
  (∀ (f : Flag) (s : State),
    (∀ n, n < 6 →
      (setFlag f s).flags.getLsbD n = (s.flags.getLsbD n || decide (n = f.position))) ∧
    setFlag f s = { s with flags := (setFlag f s).flags }) ∧
  (∀ (s : State) (n : Nat), n < 6 → s.pins.rst = false → s.flags.getLsbD n = true →
    (∀ m, s.accepts = true → decode s.pins.cmdWord = .command (.clearFlags m) →
      m.getLsbD n = false) →
    ∃ t, step s = .next t ∧ t.flags.getLsbD n = true) ∧
  (∀ (s : State) (m : Data), s.accepts = true →
    decode s.pins.cmdWord = .command (.clearFlags m) →
    ∃ t u, step s = .next t ∧ step { s with flags := 0#6 } = .next u ∧
      ∀ n, n < 6 →
        t.flags.getLsbD n = ((s.flags.getLsbD n && !m.getLsbD n) || u.flags.getLsbD n))

/-- R141: `diag_irq` is the OR over the six flags of flag AND mask bit. -/
def Obligations.DiagIrqIsTheMaskedOr : Prop :=
  ∀ s : State, s.outputs.diagIrq = true ↔
    ∃ n, n < 6 ∧ s.flags.getLsbD n = true ∧ s.cfg.irqMask.getLsbD n = true

/-! The angle-to-length converter (40_kinematics.md). -/

/-- R84, R85: the offset code is `(raw - OFFSET) mod 1024`; for a code `a` of 0..1023 the wrap is `a` up to 512 and `a - 1024` above; it is in -511..512,
keeps 512, and wrapping again changes nothing. -/
def Obligations.WrapIsIdempotentIntoRange : Prop :=
  (∀ raw offset : AngleCode,
    offsetCode raw offset = ((raw.toNat : Int) - offset.toNat) % 1024 ∧
    0 ≤ offsetCode raw offset ∧ offsetCode raw offset ≤ 1023) ∧
  wrapCode 512 = 512 ∧
  ∀ a : Int, 0 ≤ a → a ≤ 1023 →
    (a ≤ 512 → wrapCode a = a) ∧ (513 ≤ a → wrapCode a = a - 1024) ∧
    -511 ≤ wrapCode a ∧ wrapCode a ≤ 512 ∧ wrapCode (wrapCode a % 1024) = wrapCode a

/-- R86, R87: the joint code and the fault of `Kin` in the two styles. -/
def Obligations.KinFaultsOffTheMonotonicBranch : Prop :=
  ∀ (c : CfgRegs) (raw : AngleCode),
    (c.ctrlCfg.getLsbD 0 = false →
      jointOf c raw = wrapCode (offsetCode raw c.offset) + c.anchor.toNat ∧
      -511 ≤ jointOf c raw ∧ jointOf c raw ≤ 1535 ∧
      ((kin c raw).2 = true ↔ (jointOf c raw < 0 ∨ 512 < jointOf c raw))) ∧
    (c.ctrlCfg.getLsbD 0 = true →
      jointOf c raw = min (max (wrapCode (offsetCode raw c.offset)) 0) 256 ∧
      0 ≤ jointOf c raw ∧ jointOf c raw ≤ 256 ∧
      (kin c raw).2 = false)

/-- R90: the cosine of a code is within ±32768, even, and odd about a quarter turn, for every code; the
four quadrants read the ROM as written. -/
def Obligations.CosineExtendsTheQuarterWave : Prop :=
  (∀ k, k ≤ 256 → cosCode k = (romCos k : Int)) ∧
  (∀ k, k ≤ 1023 → -32768 ≤ cosCode k ∧ cosCode k ≤ 32768) ∧
  (∀ k, k ≤ 1023 → cosCode ((1024 - k) % 1024) = cosCode k) ∧
  (∀ k, k ≤ 512 → cosCode (512 - k) = -cosCode k)

/-- R92: the ROM has 257 entries of 16 bits, strictly decreasing, with the stated sum and middle entry. -/
def Obligations.RomHasTheCheckValues : Prop :=
  romTable.length = 257 ∧ romTable.sum = 5356720 ∧ romCos 0 = 32768 ∧ romCos 128 = 23170 ∧
  romCos 256 = 0 ∧ romTable.Pairwise (fun a b => b < a)

/-- R92, the equation that governs the table: every entry is the cosine of its code, scaled by 32768 and
rounded to the nearest integer. -/
def Obligations.RomIsTheRoundedCosine : Prop :=
  ∀ k : Nat, k ≤ 256 →
    (romCos k : Int) = ⌊(32768 : ℝ) * Real.cos (2 * Real.pi * (k : ℝ) / 1024) + 1 / 2⌋

/-- R88, R91: the length of `Kin` is the floor of the square root of the law of cosines:
`16384 * len² ≤ R < 16384 * (len + 1)²`, for every configuration and raw code. -/
def Obligations.KinIsTheFloorOfTheLawOfCosines : Prop :=
  ∀ (c : CfgRegs) (raw : AngleCode),
    let cosine := cosCode (jointOf c raw % 1024).toNat
    let r := 16384 * ((c.l1.toNat : Int) * c.l1.toNat + (c.l2.toNat : Int) * c.l2.toNat)
      - (c.l1.toNat : Int) * c.l2.toNat * cosine
    let len := ((kin c raw).1.toNat : Int)
    16384 * (len * len) ≤ r ∧ r < 16384 * ((len + 1) * (len + 1))

/-- R89: the radicand is in 0..2^48-1, its intermediate products fit their widths, its root is below 2^24,
and the length lies between |L1 - L2| and L1 + L2, which it is exactly at joint codes 0 and 512. -/
def Obligations.LengthIsWithinTheTriangle : Prop :=
  ∀ (c : CfgRegs) (j : Int),
    let l1 := (c.l1.toNat : Int)
    let l2 := (c.l2.toNat : Int)
    let cosine := cosCode (j % 1024).toNat
    let r := radicand c.l1 c.l2 cosine
    let len := ((lengthAt c j).toNat : Int)
    cosine ≤ 32768 ∧ -32768 ≤ cosine ∧ l1 * l1 + l2 * l2 < 2 ^ 33 ∧ 16384 * (l1 * l1 + l2 * l2) < 2 ^ 47 ∧
    -(2 ^ 47) ≤ l1 * l2 * cosine ∧ l1 * l2 * cosine < 2 ^ 47 ∧
    16384 * ((l1 - l2) * (l1 - l2)) ≤ r ∧ r ≤ 16384 * ((l1 + l2) * (l1 + l2)) ∧
    0 ≤ r ∧ r < 2 ^ 48 ∧ isqrt r.toNat < 2 ^ 24 ∧
    (lengthAt c j).toNat = isqrt r.toNat / 2 ^ 7 ∧
    |l1 - l2| ≤ len ∧ len ≤ l1 + l2 ∧ l1 + l2 ≤ 131070 ∧
    (j = 0 → len = |l1 - l2|) ∧ (j = 512 → len = l1 + l2)

/-- R93 (2): on the monotonic branch the length does not decrease with the joint code, for every pair of
link lengths. -/
def Obligations.LengthGrowsAlongTheBranch : Prop :=
  ∀ (c : CfgRegs) (j k : Int), 0 ≤ j → j ≤ k → k ≤ 512 →
    (lengthAt c j).toNat ≤ (lengthAt c k).toNat

/-- R95, R160, R161: QUERY_LENGTH completes in every state: BUSY while the unit is occupied; else it
samples the encoder and, with `T_LAT = 1`, answers `{fault, 14'b0, len}` at once, or, with `T_LAT > 1`,
stays in flight with its snapshot until cycle `k + T_LAT - 1`. No register of R17 changes. -/
def Obligations.QueryLengthAnswersOrOccupies : Prop :=
  ∀ s : State,
    (s.busy = true → exec .queryLength s =
      .next { s with rspValid := true, rspStatus := 3#2, rspData := 0#32 }) ∧
    (s.busy = false → s.build.tLat = 1 → ∃ data : Data, exec .queryLength s =
      .next { s with encStrobe := true, rspValid := true, rspStatus := 0#2, rspData := data } ∧
      data.getLsbD 31 = (kin s.cfg s.pins.encRaw).2 ∧
      data.toNat % 2 ^ 31 = (kin s.cfg s.pins.encRaw).1.toNat) ∧
    (s.busy = false → 1 < s.build.tLat → exec .queryLength s =
      .next { s with
        encStrobe := true
        queryFlight := some
          { commitAt := s.cycle + s.build.tLat - 1
            cancelled := false
            raw := s.pins.encRaw
            cfg := s.cfg } })

/-! The position controller (41_controller.md). -/

/-- R98: SET_TARGET stores the clamped target, enables, flags a clamped target, answers OK with data 0, and
changes nothing else. -/
def Obligations.SetTargetClampsAndEnables : Prop :=
  ∀ (target : Data) (s : State),
    exec (.setTarget target) s = .next
      { s with
        target := BitVec.ofNat 17 (min (max target.toNat s.cfg.lmin.toNat) s.cfg.lmax.toNat)
        enabled := true
        flags :=
          if min (max target.toNat s.cfg.lmin.toNat) s.cfg.lmax.toNat = target.toNat then s.flags
          else s.flags ||| 0b000010#6
        rspValid := true
        rspStatus := 0#2
        rspData := 0#32 }

/-- R99: the stored target is `min(max(t, LMIN), LMAX)`, unsigned, and fits its register; it lies in
[LMIN, LMAX] when LMIN ≤ LMAX and is LMAX when LMIN > LMAX. -/
def Obligations.TargetClampStaysWithinLimits : Prop :=
  ∀ (target : Data) (s : State), ∃ t, exec (.setTarget target) s = .next t ∧
    t.target.toNat = min (max target.toNat s.cfg.lmin.toNat) s.cfg.lmax.toNat ∧
    t.target.toNat ≤ 131071 ∧
    (s.cfg.lmin.toNat ≤ s.cfg.lmax.toNat →
      s.cfg.lmin.toNat ≤ t.target.toNat ∧ t.target.toNat ≤ s.cfg.lmax.toNat) ∧
    (s.cfg.lmax.toNat < s.cfg.lmin.toNat → t.target = s.cfg.lmax)

/-- R100, R101: ESTOP disables, zeroes the duty and both channels, cancels a tick in flight and records
that, answers OK with data 0, and changes nothing else (an in-flight QUERY_LENGTH included). -/
def Obligations.EstopStopsAndAborts : Prop :=
  ∀ s : State,
    exec .estop s = .next
      { s with
        enabled := false
        duty := 0#16
        pwmA := 0#15
        pwmB := 0#15
        tickFlight := none
        flags := if s.tickFlight.isSome then s.flags ||| 0b100000#6 else s.flags
        rspValid := true
        rspStatus := 0#2
        rspData := 0#32 }

/-- R103, R104, R113, R163: a TICK that is not applied. It is dropped while a tick is in flight (BUSY, 3,
TICK_OVERRUN), skipped while Disabled (OK, 1), skipped when `(now - LAST_UPDATE) mod 2^32 < MIN_PERIOD`
(OK, 2); it samples nothing and writes nothing else. -/
def Obligations.TickNotAppliedWritesNothing : Prop :=
  ∀ (now : Time) (s : State),
    (s.tickFlight.isSome = true → exec (.tick now) s = .next
      { s with flags := s.flags ||| 0b000100#6, rspValid := true, rspStatus := 3#2, rspData := 3#32 }) ∧
    (s.tickFlight = none → s.enabled = false → exec (.tick now) s = .next
      { s with rspValid := true, rspStatus := 0#2, rspData := 1#32 }) ∧
    (s.tickFlight = none → s.enabled = true →
      ((now.toNat : Int) - s.lastUpdate.toNat) % 2 ^ 32 < s.cfg.minPeriod.toNat →
      exec (.tick now) s = .next
        { s with rspValid := true, rspStatus := 0#2, rspData := 2#32 })

/-- R102, R106, R112 with `T_LAT = 1`: a TICK that passes its checks is applied at once. It records the
sample, the length, the fault and the time, counts itself, and drives the duty: by the proportional law
without a fault; with a fault it sets KIN_FAULT and drives 0 (ZERO) or nothing (HOLD). -/
def Obligations.AppliedTickDrivesTheDuty : Prop :=
  ∀ (now : Time) (s : State),
    s.build.tLat = 1 → s.tickFlight = none → s.queryFlight = none → s.enabled = true →
    s.cfg.minPeriod.toNat ≤ ((now.toNat : Int) - s.lastUpdate.toNat) % 2 ^ 32 →
    let len := (kin s.cfg s.pins.encRaw).1
    let fault := (kin s.cfg s.pins.encRaw).2
    let hold := fault && s.cfg.ctrlCfg.getLsbD 1
    let d := if fault then 0 else pLaw s.cfg.kp s.cfg.dutyFs ((s.target.toNat : Int) - len.toNat)
    exec (.tick now) s = .next
      { s with
        lastRaw := s.pins.encRaw
        lastLength := len
        lastTickFault := fault
        lastUpdate := now
        tickCount := s.tickCount + 1#32
        flags := if fault then s.flags ||| 0b000001#6 else s.flags
        duty := if hold then s.duty else BitVec.ofInt 16 d
        pwmA := if hold then s.pwmA else BitVec.ofInt 15 (max d 0)
        pwmB := if hold then s.pwmB else BitVec.ofInt 15 (max (-d) 0)
        encStrobe := true
        rspValid := true
        rspStatus := 0#2
        rspData := 0#32 }

/-- R160 with `T_LAT > 1`: a TICK that passes its checks samples the encoder, answers OK with data 0, and is
in flight with its snapshot until cycle `k + T_LAT - 1`; no register of R17 changes. -/
def Obligations.AcceptedTickGoesInFlight : Prop :=
  ∀ (now : Time) (s : State),
    1 < s.build.tLat → s.tickFlight = none → s.queryFlight = none → s.enabled = true →
    s.cfg.minPeriod.toNat ≤ ((now.toNat : Int) - s.lastUpdate.toNat) % 2 ^ 32 →
    exec (.tick now) s = .next
      { s with
        tickFlight := some
          { commitAt := s.cycle + s.build.tLat - 1
            snap := { raw := s.pins.encRaw, now := now, target := s.target, cfg := s.cfg } }
        encStrobe := true
        rspValid := true
        rspStatus := 0#2
        rspData := 0#32 }

/-- R107: the error of a tick is `TARGET - len`, in -131070..131071. -/
def Obligations.ErrorIsTargetMinusLength : Prop :=
  ∀ (c : CfgRegs) (raw : AngleCode) (target : Length),
    lengthError target (kin c raw).1 = (target.toNat : Int) - ((kin c raw).1.toNat : Int) ∧
    -131070 ≤ lengthError target (kin c raw).1 ∧ lengthError target (kin c raw).1 ≤ 131071

/-- R109: the rounded product is the nearest integer to `p / 2^28`, with ties away from zero and the sign
of `p`. -/
def Obligations.RoundingIsHalfAwayFromZero : Prop :=
  ∀ p : Int,
    (0 ≤ p → 0 ≤ roundedDuty p ∧
      2 ^ 28 * roundedDuty p ≤ p + 2 ^ 27 ∧ p + 2 ^ 27 < 2 ^ 28 * (roundedDuty p + 1)) ∧
    (p < 0 → roundedDuty p ≤ 0 ∧
      p - 2 ^ 27 ≤ 2 ^ 28 * roundedDuty p ∧ 2 ^ 28 * (roundedDuty p - 1) < p - 2 ^ 27)

/-- R110, R111: for every error of 18 bits the product is below 2^56 and its magnitude at most 2^28, and the
duty is within [-DUTY_FS, DUTY_FS], so it fits `ST.DUTY`; with `DUTY_FS = 0` it is 0. -/
def Obligations.LawStaysWithinFullScale : Prop :=
  ∀ (kp : BitVec 24) (fs : Level) (e : Int), -(2 ^ 17) < e → e < 2 ^ 17 →
    |lawProduct kp fs e| < 2 ^ 56 ∧ roundedMagnitude (lawProduct kp fs e) ≤ 2 ^ 28 ∧
    -(fs.toNat : Int) ≤ pLaw kp fs e ∧ pLaw kp fs e ≤ fs.toNat ∧ fs.toNat ≤ 32767 ∧
    (BitVec.ofInt 16 (pLaw kp fs e)).toInt = pLaw kp fs e ∧
    (fs = 0#15 → pLaw kp fs e = 0)

/-- R115: the proportional law is `clamp(round(KP * DUTY_FS * e / 2^28))`, odd in the error, 0 at error 0,
and ±1 at a product of exactly ±2^27 (half a duty count). -/
def Obligations.LawIsOddAndRoundsHalfUpToOne : Prop :=
  ∀ (kp : BitVec 24) (fs : Level) (e : Int),
    (let p := (kp.toNat : Int) * fs.toNat * e
     let m := ((p.natAbs + 2 ^ 27) / 2 ^ 28 : Nat)
     let d := if 0 ≤ p then (m : Int) else -(m : Int)
     pLaw kp fs e = min (max d (-(fs.toNat : Int))) fs.toNat) ∧
    pLaw kp fs (-e) = -pLaw kp fs e ∧ pLaw kp fs 0 = 0 ∧
    ((kp.toNat : Int) * fs.toNat * e = 2 ^ 27 → pLaw kp fs e = 1) ∧
    ((kp.toNat : Int) * fs.toNat * e = -(2 ^ 27) → pLaw kp fs e = -1)

/-- R66, R163: a tick-port request does what the command TICK with `DATA = tick_now` does, but loads no
response. In a cycle whose command port accepts a TICK that passes its checks it is dropped: it sets
TICK_OVERRUN and nothing else, and the command's tick is applied (`T_LAT = 1`) or goes in flight. That it
sets the flag in a cycle with a stop pin as well, the last clause, is the model's choice (log 8). -/
def Obligations.TickPortIsTheCommandWithoutResponse : Prop :=
  (∀ s : State, s.pins.tickValid = true →
    ∃ t, exec (.tick s.pins.tickNow) s = .next t ∧
      tickPort false s =
        { t with rspValid := s.rspValid, rspStatus := s.rspStatus, rspData := s.rspData }) ∧
  (∀ s : State, s.pins.tickValid = true →
    tickPort true s = { s with flags := s.flags ||| 0b000100#6 }) ∧
  (∀ (s : State) (now : Time), s.accepts = true → decode s.pins.cmdWord = .command (.tick now) →
    TickPasses s s.enabled now → s.pins.tickValid = true → s.pins.estopReq = false →
    ∃ t, step s = .next t ∧ t.flags.getLsbD 2 = true ∧
      t.rspValid = true ∧ t.rspStatus = 0#2 ∧ t.rspData = 0#32 ∧
      (s.build.tLat = 1 → t.tickCount = s.tickCount + 1#32 ∧ t.lastUpdate = now ∧
        t.lastRaw = s.pins.encRaw ∧ t.tickFlight = none) ∧
      (1 < s.build.tLat → t.tickCount = s.tickCount ∧ t.tickFlight = some
        { commitAt := s.cycle + s.build.tLat - 1
          snap := { raw := s.pins.encRaw, now := now, target := s.target, cfg := s.cfg } })) ∧
  (∀ (s : State) (now : Time), s.accepts = true → decode s.pins.cmdWord = .command (.tick now) →
    TickPasses s s.enabled now → s.pins.tickValid = true → s.pins.estopReq = true →
    ∃ t, step s = .next t ∧ t.flags.getLsbD 2 = true)

/-! The motor driver (42_motor_driver.md). -/

/-- R118, R119: SetDuty clamps to ±DUTY_FS, stores the duty, drives its magnitude on channel A when positive
and on channel B otherwise, and writes nothing else. -/
def Obligations.SetDutyMapsTheSignToAChannel : Prop :=
  ∀ (fs : Level) (d : Int) (s : State),
    let dc := min (max d (-(fs.toNat : Int))) fs.toNat
    let t := setDuty fs d s
    t.duty.toInt = dc ∧
    (0 < dc → (t.pwmA.toNat : Int) = dc ∧ t.pwmB = 0#15) ∧
    (dc ≤ 0 → t.pwmA = 0#15 ∧ (t.pwmB.toNat : Int) = -dc) ∧
    t = { s with duty := t.duty, pwmA := t.pwmA, pwmB := t.pwmB }

/-- R121, R122: after every SetDuty at most one channel is driven, and none exactly when the duty is 0;
SetDuty(0) zeroes the duty and both channels. -/
def Obligations.AtMostOneChannelIsDriven : Prop :=
  ∀ (fs : Level) (d : Int) (s : State),
    ((setDuty fs d s).pwmA = 0#15 ∨ (setDuty fs d s).pwmB = 0#15) ∧
    (((setDuty fs d s).pwmA = 0#15 ∧ (setDuty fs d s).pwmB = 0#15) ↔ (setDuty fs d s).duty = 0#16) ∧
    ChannelsOff (setDuty fs 0 s)

/-! The kinematic unit over cycles (70_reset_and_hazards.md). -/

/-- R158, R160, R112: in its commit cycle, unless the cycle contains a stop, a tick in flight leaves the unit
and makes all its writes on its snapshot, whatever command or tick request the cycle carries: the records,
the count, and the duty with both channels, by the law, ZERO or HOLD. With idle ports it writes nothing
else. A SET_TARGET of that cycle stores its target and enables; a STAT_READ of it reads the state before. -/
def Obligations.FlightCommitsInItsCycle : Prop :=
  ∀ (s : State) (f : TickFlight),
    s.pins.rst = false → ¬ StopsInCycle s → s.tickFlight = some f → f.commitAt = s.cycle →
    let len := (kin f.snap.cfg f.snap.raw).1
    let fault := (kin f.snap.cfg f.snap.raw).2
    let d := pLaw f.snap.cfg.kp f.snap.cfg.dutyFs ((f.snap.target.toNat : Int) - len.toNat)
    ∃ t, step s = .next t ∧ t.tickFlight = none ∧
      t.lastRaw = f.snap.raw ∧ t.lastLength = len ∧ t.lastTickFault = fault ∧
      t.lastUpdate = f.snap.now ∧ t.tickCount = s.tickCount + 1#32 ∧
      (fault = false → t.duty = BitVec.ofInt 16 d ∧
        t.pwmA = BitVec.ofInt 15 (max d 0) ∧ t.pwmB = BitVec.ofInt 15 (max (-d) 0)) ∧
      (fault = true → t.flags.getLsbD 0 = true ∧
        (f.snap.cfg.ctrlCfg.getLsbD 1 = false → ChannelsOff t) ∧
        (f.snap.cfg.ctrlCfg.getLsbD 1 = true →
          t.duty = s.duty ∧ t.pwmA = s.pwmA ∧ t.pwmB = s.pwmB)) ∧
      (PortsIdle s → t.cfg = s.cfg ∧ t.enabled = s.enabled ∧ t.target = s.target ∧
        t.flags = if fault then s.flags ||| 0b000001#6 else s.flags) ∧
      (∀ target, s.accepts = true → decode s.pins.cmdWord = .command (.setTarget target) →
        t.enabled = true ∧ t.cfg = s.cfg ∧
        t.target = BitVec.ofNat 17 (min (max target.toNat s.cfg.lmin.toNat) s.cfg.lmax.toNat)) ∧
      (∀ idx r, s.accepts = true → decode s.pins.cmdWord = .command (.statRead idx) →
        statRegAt idx = some r →
        t.rspValid = true ∧ t.rspStatus = 0#2 ∧ t.rspData = statVal r s)

/-- R54, R172: a SET_TARGET accepted while a tick is in flight changes the target and leaves the flight with
the target of its snapshot; in the tick's commit cycle the duty is still that of the snapshot's target. -/
def Obligations.SetTargetLeavesTheFlightAlone : Prop :=
  ∀ (s : State) (f : TickFlight) (target : Data),
    s.accepts = true → decode s.pins.cmdWord = .command (.setTarget target) →
    s.pins.estopReq = false → s.tickFlight = some f →
    ∃ t, step s = .next t ∧
      t.target = BitVec.ofNat 17 (min (max target.toNat s.cfg.lmin.toNat) s.cfg.lmax.toNat) ∧
      t.enabled = true ∧
      (f.commitAt ≠ s.cycle → t.tickFlight = some f ∧ t.duty = s.duty ∧ t.pwmA = s.pwmA ∧
        t.pwmB = s.pwmB) ∧
      (f.commitAt = s.cycle → t.tickFlight = none ∧
        ((kin f.snap.cfg f.snap.raw).2 = false →
          t.duty = BitVec.ofInt 16 (pLaw f.snap.cfg.kp f.snap.cfg.dutyFs
            ((f.snap.target.toNat : Int) - (kin f.snap.cfg f.snap.raw).1.toNat))))

/-- R161, R162, second case: a tick-port request that passes its checks while a QUERY_LENGTH of an earlier
cycle is in flight takes the unit and cancels it. A cancelled QUERY_LENGTH answers BUSY with data 0 in its
own commit cycle, whatever else that cycle holds. One that is not cancelled, in a cycle in which no tick
passes its checks (none is requested, a stop, Disabled, too soon, or a tick in flight), is not disturbed: in
its commit cycle it answers OK with its result, before it stays in flight. -/
def Obligations.TickPreemptsTheQuery : Prop :=
  (∀ (s : State) (q : QueryFlight),
    s.pins.rst = false → s.pins.estopReq = false → s.pins.tickValid = true →
    s.queryFlight = some q → 1 < s.build.tLat →
    s.cycle ≤ q.commitAt → q.commitAt < s.cycle + s.build.tLat - 1 →
    TickPasses s s.enabled s.pins.tickNow →
    ∃ t, step s = .next t ∧
      t.tickFlight = some
        { commitAt := s.cycle + s.build.tLat - 1
          snap := { raw := s.pins.encRaw, now := s.pins.tickNow, target := s.target, cfg := s.cfg } } ∧
      t.owner = some .tick ∧
      (q.commitAt ≠ s.cycle → t.queryFlight = some { q with cancelled := true } ∧
        t.rspValid = false) ∧
      (q.commitAt = s.cycle → t.queryFlight = none ∧
        t.rspValid = true ∧ t.rspStatus = 3#2 ∧ t.rspData = 0#32)) ∧
  (∀ (s : State) (q : QueryFlight),
    s.pins.rst = false → s.queryFlight = some q → q.cancelled = true →
    ∃ t, step s = .next t ∧
      (q.commitAt = s.cycle → t.queryFlight = none ∧
        t.rspValid = true ∧ t.rspStatus = 3#2 ∧ t.rspData = 0#32) ∧
      (q.commitAt ≠ s.cycle → t.queryFlight = some q ∧ t.rspValid = false)) ∧
  (∀ (s : State) (q : QueryFlight),
    s.pins.rst = false → s.queryFlight = some q → q.cancelled = false →
    (s.pins.tickValid = false ∨ s.pins.estopReq = true ∨ ¬ TickPasses s s.enabled s.pins.tickNow) →
    ∃ t, step s = .next t ∧
      (q.commitAt = s.cycle → t.queryFlight = none ∧
        t.rspValid = true ∧ t.rspStatus = 0#2 ∧ t.rspData = queryData q.cfg q.raw) ∧
      (q.commitAt ≠ s.cycle → t.queryFlight = some q ∧ t.rspValid = false))

/-- R162, first case: a QUERY_LENGTH and a tick-port request in one cycle use one sample and both complete.
With `T_LAT = 1` they do so at once. With `T_LAT > 1` both are in flight on the sample with one commit cycle,
the query not cancelled; and in a commit cycle of two such operations, without a stop, the tick is applied
and the query answers OK. The answer is the length and the fault the tick records. -/
def Obligations.QueryAndTickShareTheSample : Prop :=
  (∀ s : State,
    s.accepts = true → decode s.pins.cmdWord = .command .queryLength →
    s.pins.estopReq = false → s.pins.tickValid = true → TickPasses s s.enabled s.pins.tickNow →
    ∃ t, step s = .next t ∧ t.encStrobe = true ∧
      (s.build.tLat = 1 → t.rspValid = true ∧ t.rspStatus = 0#2 ∧
        t.lastRaw = s.pins.encRaw ∧ t.tickCount = s.tickCount + 1#32 ∧
        t.rspData.toNat % 2 ^ 31 = t.lastLength.toNat ∧ t.rspData.getLsbD 31 = t.lastTickFault) ∧
      (1 < s.build.tLat → t.rspValid = false ∧
        t.queryFlight = some
          { commitAt := s.cycle + s.build.tLat - 1, cancelled := false, raw := s.pins.encRaw, cfg := s.cfg } ∧
        t.tickFlight = some
          { commitAt := s.cycle + s.build.tLat - 1
            snap :=
              { raw := s.pins.encRaw, now := s.pins.tickNow, target := s.target, cfg := s.cfg } })) ∧
  (∀ (s : State) (f : TickFlight) (q : QueryFlight),
    s.pins.rst = false → s.pins.estopReq = false →
    s.tickFlight = some f → s.queryFlight = some q → q.cancelled = false →
    f.commitAt = s.cycle → q.commitAt = s.cycle → q.raw = f.snap.raw → q.cfg = f.snap.cfg →
    ∃ t, step s = .next t ∧ t.tickFlight = none ∧ t.queryFlight = none ∧
      t.rspValid = true ∧ t.rspStatus = 0#2 ∧ t.lastRaw = f.snap.raw ∧
      t.tickCount = s.tickCount + 1#32 ∧
      t.rspData.toNat % 2 ^ 31 = t.lastLength.toNat ∧ t.rspData.getLsbD 31 = t.lastTickFault)

/-- R55, R164: every cycle without a reset that contains an emergency stop, by pin or by command, ends
Disabled with zero duty and no tick in flight, whatever else the cycle holds; a tick that was in flight is
recorded as aborted and commits nothing. A command-port TICK accepted in the cycle of a pin stop is aborted
and recorded with `T_LAT > 1`; with `T_LAT = 1` it has been applied, and no abort is recorded. -/
def Obligations.EveryStopCycleEndsOff : Prop :=
  ∀ s : State, s.pins.rst = false → StopsInCycle s →
    ∃ t, step s = .next t ∧ t.enabled = false ∧ ChannelsOff t ∧ t.tickFlight = none ∧
      (s.tickFlight.isSome = true →
        t.flags.getLsbD 5 = true ∧ t.lastRaw = s.lastRaw ∧ t.lastLength = s.lastLength ∧
        t.lastTickFault = s.lastTickFault ∧ t.lastUpdate = s.lastUpdate ∧
        t.tickCount = s.tickCount) ∧
      (∀ now, s.accepts = true → decode s.pins.cmdWord = .command (.tick now) →
        TickPasses s s.enabled now →
        (1 < s.build.tLat →
          t.flags.getLsbD 5 = true ∧ t.lastRaw = s.lastRaw ∧ t.lastLength = s.lastLength ∧
          t.lastTickFault = s.lastTickFault ∧ t.lastUpdate = s.lastUpdate ∧
          t.tickCount = s.tickCount) ∧
        (s.build.tLat = 1 →
          t.flags.getLsbD 5 = s.flags.getLsbD 5 ∧ t.lastRaw = s.pins.encRaw ∧ t.lastUpdate = now ∧
          t.tickCount = s.tickCount + 1#32))

/-- R163, D46: a cycle without a reset applies at most one tick, and the observation registers change only
with the tick counter. -/
def Obligations.AtMostOneTickIsAppliedPerCycle : Prop :=
  ∀ s : State, s.pins.rst = false → ∃ t, step s = .next t ∧
    (t.tickCount = s.tickCount + 1#32 ∨
      (t.tickCount = s.tickCount ∧ t.lastRaw = s.lastRaw ∧ t.lastLength = s.lastLength ∧
        t.lastTickFault = s.lastTickFault ∧ t.lastUpdate = s.lastUpdate))

/-- R52, R169: in a cycle that begins Enabled and has no reset, no configuration register but IRQ_MASK
changes. -/
def Obligations.ConfigurationIsLockedWhileEnabled : Prop :=
  ∀ s : State, s.pins.rst = false → s.enabled = true →
    ∃ t, step s = .next t ∧ AgreeButMask s.cfg t.cfg

/-- R30, R97: a Disabled controller becomes Enabled only in a cycle whose command port accepts a SET_TARGET
and whose stop pin is 0. -/
def Obligations.OnlySetTargetEnables : Prop :=
  ∀ s t : State, s.enabled = false → step s = .next t → t.enabled = true →
    s.pins.estopReq = false ∧ s.accepts = true ∧
      ∃ target, decode s.pins.cmdWord = .command (.setTarget target)

/-- R64, R165: without a reset, a cycle that accepts a command loads its response, unless the command is a
QUERY_LENGTH that stays in flight; a cycle that accepts none and ends no QUERY_LENGTH's flight leaves the
response register 0. R60, R166: `enc_strobe` is 1 after exactly the cycles that sample the encoder: those that
accept a QUERY_LENGTH that finds the unit free, or a TICK on either port that passes its checks. -/
def Obligations.EveryAcceptedCommandIsAnswered : Prop :=
  ∀ s : State, s.pins.rst = false → ∃ t, step s = .next t ∧
    (s.accepts = true →
      t.rspValid = true ∨
        (decode s.pins.cmdWord = .command .queryLength ∧ t.queryFlight.isSome = true)) ∧
    (s.accepts = false → (∀ q, s.queryFlight = some q → q.commitAt ≠ s.cycle) →
      t.rspValid = false ∧ t.rspStatus = 0#2 ∧ t.rspData = 0#32) ∧
    (t.encStrobe = true ↔
      (s.accepts = true ∧ decode s.pins.cmdWord = .command .queryLength ∧ s.busy = false) ∨
      (∃ now, s.accepts = true ∧ decode s.pins.cmdWord = .command (.tick now) ∧
        TickPasses s s.enabled now) ∨
      (s.pins.tickValid = true ∧ s.pins.estopReq = false ∧
        TickPasses s (enabledAfterCommand s) s.pins.tickNow))

/-! Invariants over every step. -/

/-- R41: the outputs are safe in every reset state, whatever the build, and stay safe over every step; with
it goes the fact the spec derives it from, that a tick in flight means Enabled. -/
def Obligations.EveryStepKeepsTheOutputsSafe : Prop :=
  (∀ (p : Config.Params) (cycle : Nat) (pins : PortInputs) (stimulus : List PortInputs),
    OutputsSafe (State.resetWith p cycle pins stimulus) ∧
    FlightEnabled (State.resetWith p cycle pins stimulus)) ∧
  ∀ s t : State, OutputsSafe s → FlightEnabled s → step s = .next t →
    OutputsSafe t ∧ FlightEnabled t

/-- R132, R169, R110, R99: over every step the snapshot of a tick in flight keeps agreeing with the locked
configuration, the duty stays within the full scale in force, and while Enabled the target stays within
the limits in force. -/
def Obligations.EveryStepKeepsDutyAndTargetInScale : Prop :=
  ∀ s t : State,
    OutputsSafe s → FlightEnabled s → SnapshotCurrent s → DutyWithinScale s → TargetWithinLimits s →
    step s = .next t →
    SnapshotCurrent t ∧ DutyWithinScale t ∧ TargetWithinLimits t

/-- R160 to R162: over every step an operation in flight commits within `T_LAT` cycles of its acceptance,
and a QUERY_LENGTH in flight beside a tick shares its cycle and sample or is cancelled and answers first. -/
def Obligations.EveryStepKeepsFlightsTimely : Prop :=
  ∀ s t : State, FlightsTimely s → step s = .next t → FlightsTimely t

/-- The reset state has every invariant. -/
def Obligations.ResetHasTheInvariants : Prop :=
  OutputsSafe State.reset ∧ FlightEnabled State.reset ∧ SnapshotCurrent State.reset ∧
  DutyWithinScale State.reset ∧ TargetWithinLimits State.reset ∧ FlightsTimely State.reset

/-- R161, R162: a QUERY_LENGTH that takes the unit in cycle k is answered in cycle `k + T_LAT`, whatever the
ports present until then short of a reset: OK with its own result; or BUSY with data 0, only with
`T_LAT > 1` and a tick-port request in one of the cycles k+1 to k+T_LAT-1, which can have pre-empted it.
Until then the command port is closed and silent. (Past the presented stimulus the ports are those of the
model's choice, log 2, which hold no reset and no tick.) -/
def Obligations.QueryIsAnsweredAfterItsLatency : Prop :=
  ∀ s : State,
    s.accepts = true → decode s.pins.cmdWord = .command .queryLength → s.tickFlight = none →
    (∀ p ∈ s.stimulus, p.rst = false) →
    (∀ n, 1 ≤ n → n < s.build.tLat →
      ∃ u, core.run n s = .next u ∧ u.cmdReady = false ∧ u.rspValid = false) ∧
    ∃ t, core.run s.build.tLat s = .next t ∧ t.cmdReady = true ∧ t.rspValid = true ∧
      ((t.rspStatus = 0#2 ∧ t.rspData = queryData s.cfg s.pins.encRaw) ∨
        (t.rspStatus = 3#2 ∧ t.rspData = 0#32 ∧ 1 < s.build.tLat ∧
          ∃ p ∈ s.stimulus.take (s.build.tLat - 1), p.tickValid = true))

/-- R175, for one tick: a tick accepted on the tick port with nothing in flight, with idle cycles after it,
leaves after `T_LAT` cycles the registers that the same block with `T_LAT = 1` has after one. (The idle
cycles are those the model presents when the stimulus has ended, log 2.) -/
def Obligations.LatencyDoesNotChangeTheResult : Prop :=
  ∀ s : State,
    s.pins.rst = false → s.pins.cmdValid = false → s.pins.estopReq = false →
    s.pins.tickValid = true → s.stimulus = [] → s.tickFlight = none → s.queryFlight = none →
    ∃ t u, core.run s.build.tLat s = .next t ∧
      step { s with build := { s.build with extraLatency := 0 } } = .next u ∧
      registersOf t = registersOf u

/-! Ports and notation (30_encoding.md). -/

/-- R59, R61, R64, R68, R152: the output ports: the duty levels are the registers; `cmd_ready` is 0 in a cycle with
`rst = 1` or while a QUERY_LENGTH is owed its answer, else 1; no response is presented while `rst = 1`, and
the response outputs are then 0. No output depends on an input port of the cycle but the command port's
outputs on `rst`. (That these follow `rst` in its own cycle is the model's reading of R61, R64 and R152 against
R59, log 7.) -/
def Obligations.OutputPortsShowTheRegisters : Prop :=
  (∀ s : State,
    s.outputs.pwmA = s.pwmA ∧ s.outputs.pwmB = s.pwmB ∧ s.outputs.encStrobe = s.encStrobe ∧
    (s.outputs.cmdReady = true ↔ (s.pins.rst = false ∧ s.queryFlight = none)) ∧
    (s.pins.rst = true → s.outputs.rspValid = false ∧ s.outputs.rspStatus = 0#2 ∧
      s.outputs.rspData = 0#32) ∧
    (s.pins.rst = false → s.outputs.rspValid = s.rspValid ∧ s.outputs.rspStatus = s.rspStatus ∧
      s.outputs.rspData = s.rspData ∧ s.outputs = s.registeredOutputs)) ∧
  (∀ (s : State) (p : PortInputs),
    State.registeredOutputs { s with pins := p } = s.registeredOutputs ∧
    (p.rst = s.pins.rst → State.outputs { s with pins := p } = s.outputs) ∧
    (State.outputs { s with pins := p }).pwmA = s.outputs.pwmA ∧
    (State.outputs { s with pins := p }).pwmB = s.outputs.pwmB ∧
    (State.outputs { s with pins := p }).encStrobe = s.outputs.encStrobe ∧
    (State.outputs { s with pins := p }).diagIrq = s.outputs.diagIrq)

/-- R80, R81: `round_half_up(x * scale)` is `floor(x * scale + 1/2)`; a scaled operand is that number, and
an assembly error when its argument is negative or it is above 2^32 - 1; the expansion of every
pseudo-instruction, and R81's examples. -/
def Obligations.PseudoInstructionsExpand : Prop :=
  (∀ (x : Asm.Decimal) (scale : Nat),
    let r := Asm.roundHalfUp x scale
    2 * (10 : Int) ^ x.places * r ≤ 2 * x.mantissa * scale + 10 ^ x.places ∧
    2 * x.mantissa * scale + 10 ^ x.places < 2 * (10 : Int) ^ x.places * (r + 1) ∧
    (x.mantissa < 0 → Asm.scaledOperand x scale = .error .negativeArgument) ∧
    (0 ≤ x.mantissa → 2 ^ 32 ≤ r → Asm.scaledOperand x scale = .error .operandTooWide) ∧
    (0 ≤ x.mantissa → r < 2 ^ 32 → ∃ d, Asm.scaledOperand x scale = .ok d ∧ (d.toNat : Int) = r)) ∧
  (∀ (x : Asm.Decimal) (d : Data), Asm.scaledOperand x 65536 = .ok d →
    (Asm.Pseudo.setTargetM x).expand = .ok (.setTarget d) ∧
    ∀ p ∈ [(Asm.LengthReg.l1, 1#4), (.l2, 2#4), (.lmin, 5#4), (.lmax, 6#4)],
      (Asm.Pseudo.setLen p.1 x).expand = .ok (.cfgWrite p.2 d)) ∧
  (∀ (x : Asm.Decimal) (d : Data), Asm.scaledOperand x 4096 = .ok d →
    (Asm.Pseudo.setGain x).expand = .ok (.cfgWrite 7#4 d)) ∧
  Asm.Pseudo.stop.expand = .ok .estop ∧
  (Asm.Pseudo.setStyle .anchor .zero).expand = .ok (.cfgWrite 0#4 0#32) ∧
  (Asm.Pseudo.setStyle .clamp .zero).expand = .ok (.cfgWrite 0#4 1#32) ∧
  (Asm.Pseudo.setStyle .anchor .hold).expand = .ok (.cfgWrite 0#4 2#32) ∧
  (Asm.Pseudo.setStyle .clamp .hold).expand = .ok (.cfgWrite 0#4 3#32) ∧
  Asm.Pseudo.clearAll.expand = .ok (.clearFlags 0x3F#32) ∧
  Asm.Pseudo.readFlags.expand = .ok (.statRead 1#4) ∧
  Asm.Pseudo.readStatus.expand = .ok (.statRead 0#4) ∧
  (Asm.Pseudo.setTargetM ⟨2, 1⟩).expand = .ok (.setTarget 13107#32) ∧
  (Asm.Pseudo.setGain ⟨185, 1⟩).expand = .ok (.cfgWrite 7#4 75776#32) ∧
  (Asm.Pseudo.setTargetM ⟨100, 1⟩).expand = .ok (.setTarget 655360#32)
end

