-- ==== Sys2Proof/Laws/Arith.lean ====
section
/-! SUPPORT. What the integer primitives compute (00_scope.md R9): the square root, the clamps, and the
values that fit the duty and level registers. -/

namespace Sys2Proof.Machine

/-- The bits still to be found bring the root to the floor of the square root. -/
theorem isqrtBits_spec (n b : Nat) : ∀ root, root * root ≤ n →
    n < (root + 2 ^ b) * (root + 2 ^ b) →
    isqrtBits n b root * isqrtBits n b root ≤ n ∧
      n < (isqrtBits n b root + 1) * (isqrtBits n b root + 1) := by
  induction b with
  | zero => intro root h1 h2; simpa [isqrtBits] using ⟨h1, h2⟩
  | succ b ih =>
    intro root h1 h2
    have h3 : root + 2 ^ (b + 1) = root + 2 ^ b + 2 ^ b := by rw [pow_succ]; omega
    rw [h3] at h2
    unfold isqrtBits
    split
    · exact ih _ ‹_› h2
    · exact ih _ h1 (by omega)

/-- `isqrt n` is the largest number whose square is at most `n` (R9). -/
theorem isqrt_spec (n : Nat) : isqrt n * isqrt n ≤ n ∧ n < (isqrt n + 1) * (isqrt n + 1) := by
  refine isqrtBits_spec n _ 0 (by omega) ?_
  rcases Nat.eq_zero_or_pos n with rfl | h
  · simp
  · have h1 : n < 2 ^ (n.log2 + 1) := Nat.lt_log2_self
    have h2 : n.log2 + 1 ≤ (n.log2 / 2 + 1) + (n.log2 / 2 + 1) := by omega
    calc n < 2 ^ (n.log2 + 1) := h1
      _ ≤ 2 ^ ((n.log2 / 2 + 1) + (n.log2 / 2 + 1)) := Nat.pow_le_pow_right (by omega) h2
      _ = (0 + 2 ^ (n.log2 / 2 + 1)) * (0 + 2 ^ (n.log2 / 2 + 1)) := by rw [pow_add]; simp

/-- A number whose square is at most `n` is at most the root. -/
theorem le_isqrt {m n : Nat} (h : m * m ≤ n) : m ≤ isqrt n := by
  by_contra hc
  have h1 : isqrt n + 1 ≤ m := by omega
  have h2 := Nat.mul_le_mul h1 h1
  have h3 := (isqrt_spec n).2
  omega

/-- The root is below every number whose square exceeds `n`. -/
theorem isqrt_lt {m n : Nat} (h : n < m * m) : isqrt n < m := by
  by_contra hc
  have h1 : m ≤ isqrt n := by omega
  have h2 := Nat.mul_le_mul h1 h1
  have h3 := (isqrt_spec n).1
  omega

/-- The root of a larger number is no smaller. -/
theorem isqrt_mono {m n : Nat} (h : m ≤ n) : isqrt m ≤ isqrt n :=
  le_isqrt (le_trans (isqrt_spec m).1 h)

/-- The duty clamp stays within the full scale (R110, R120). -/
theorem clampDuty_bounds (fs : Level) (d : Int) :
    -(fs.toNat : Int) ≤ clampDuty fs d ∧ clampDuty fs d ≤ fs.toNat := by
  unfold clampDuty clampInt; omega

/-- A duty within the full scale is not changed by the clamp (R120). -/
theorem clampDuty_of_within {fs : Level} {d : Int} (h1 : -(fs.toNat : Int) ≤ d)
    (h2 : d ≤ fs.toNat) : clampDuty fs d = d := by
  unfold clampDuty clampInt; omega

/-- Zero is within every full scale (R122). -/
@[simp] theorem clampDuty_zero (fs : Level) : clampDuty fs 0 = 0 :=
  clampDuty_of_within (by omega) (by omega)

/-- Clamping twice is clamping once (R120). -/
@[simp] theorem clampDuty_clampDuty (fs : Level) (d : Int) :
    clampDuty fs (clampDuty fs d) = clampDuty fs d :=
  clampDuty_of_within (clampDuty_bounds fs d).1 (clampDuty_bounds fs d).2

/-- A duty within a 15-bit full scale fits the 16-bit register (R111). -/
theorem toInt_ofInt_of_within {fs : Level} {d : Int} (h1 : -(fs.toNat : Int) ≤ d)
    (h2 : d ≤ fs.toNat) : (BitVec.ofInt 16 d).toInt = d := by
  have := fs.isLt
  rw [BitVec.toInt_ofInt]
  exact Int.bmod_eq_of_le (by omega) (by omega)

/-- A magnitude within a 15-bit full scale fits a channel level (R119). -/
theorem toNat_ofInt_of_within {fs : Level} {d : Int} (h1 : 0 ≤ d) (h2 : d ≤ fs.toNat) :
    ((BitVec.ofInt 15 d).toNat : Int) = d := by
  have := fs.isLt
  rw [BitVec.toNat_ofInt]
  omega

/-- The target clamp never exceeds the upper limit (R99). -/
theorem clampNat_le (x lo hi : Nat) : clampNat x lo hi ≤ hi := by unfold clampNat; omega

/-- Clamping to the same limits twice is clamping once (R99). -/
@[simp] theorem clampNat_clampNat (x lo hi : Nat) :
    clampNat (clampNat x lo hi) lo hi = clampNat x lo hi := by unfold clampNat; omega

end Sys2Proof.Machine
end

