-- ==== Sys2Proof/Laws/Assembler.lean ====
section
/-! SUPPORT. The cycles of a command stream (30_encoding.md R77, log 16): no operation is lost or moved, and no
cycle holds two operations for one port. -/

namespace Sys2Proof.Machine.Asm

/-- Splitting a stream keeps its operations, in their order, and drops only the `@CYCLE` lines. -/
theorem splitCycles_flatten (items : List Item) : ∀ last,
    (splitCycles last items).1 ++ (splitCycles last items).2.flatten =
      items.filter (· ≠ .nextCycle) := by
  induction items with
  | nil => intro last; cases last <;> rfl
  | cons item rest ih =>
    intro last
    cases item <;> cases last <;> simp only [splitCycles] <;> (try split) <;> simpa using ih _

/-- A cycle of one operation takes no further one. -/
theorem splitCycles_none (items : List Item) : (splitCycles none items).1 = [] := by
  cases items with
  | nil => rfl
  | cons item rest => cases item <;> rfl

/-- Every cycle after the open one begins with one operation, or with what a `@CYCLE` opens. -/
theorem splitCycles_cons (item : Item) (rest : List Item) (last : Option Nat) :
    (item = .nextCycle ∧ splitCycles last (item :: rest) =
      ([], (splitCycles (some 0) rest).1 :: (splitCycles (some 0) rest).2)) ∨
    ((∃ l, last = some l ∧ l < item.position) ∧ splitCycles last (item :: rest) =
      (item :: (splitCycles (some item.position) rest).1, (splitCycles (some item.position) rest).2)) ∨
    splitCycles last (item :: rest) = ([], [item] :: (splitCycles none rest).2) := by
  cases item <;> cases last <;> simp only [splitCycles, splitCycles_none] <;> (try split) <;> simp_all

/-- What joins an open cycle stands at rising places after its last operation, and so do the operations of
every later cycle among themselves (R158). -/
theorem splitCycles_order (items : List Item) : ∀ last,
    (∀ l, last = some l → (l :: (splitCycles last items).1.map Item.position).Pairwise (· < ·)) ∧
    ∀ cycle ∈ (splitCycles last items).2, (cycle.map Item.position).Pairwise (· < ·) := by
  induction items with
  | nil => intro last; cases last <;> simp [splitCycles]
  | cons item rest ih =>
    intro last
    rcases splitCycles_cons item rest last with ⟨_, e⟩ | ⟨⟨l, rfl, hl⟩, e⟩ | e <;> rw [e]
    · refine ⟨by simp, List.forall_mem_cons.mpr ⟨((ih (some 0)).1 0 rfl).of_cons, (ih (some 0)).2⟩⟩
    · have joined := (ih (some item.position)).1 _ rfl
      refine ⟨?_, (ih _).2⟩
      rintro _ ⟨⟩
      refine List.pairwise_cons.mpr ⟨fun p hp => ?_, joined⟩
      rcases List.mem_cons.mp hp with rfl | hp
      · exact hl
      · exact hl.trans (List.rel_of_pairwise_cons joined hp)
    · exact ⟨by simp, List.forall_mem_cons.mpr ⟨by simp, (ih none).2⟩⟩

/-- No operation of a stream is lost or moved. -/
theorem cyclesOf_flatten (items : List Item) :
    (cyclesOf items).flatten = items.filter (· ≠ .nextCycle) := by
  simpa [cyclesOf, splitCycles_none] using splitCycles_flatten items none

/-- Every cycle holds its operations in the intra-cycle order, one for each port at most (R158). -/
theorem cyclesOf_order (items : List Item) :
    ∀ cycle ∈ cyclesOf items, (cycle.map Item.position).Pairwise (· < ·) :=
  (splitCycles_order items none).2

end Sys2Proof.Machine.Asm
end

