-- ==== Sys2Proof/Laws/Cosine.lean ====
section
/-! SUPPORT. The real cosine of the multiples of an angle, enclosed by integers (40_kinematics.md R92): what
a comparison of the cosine ROM with the cosine needs. -/

namespace Sys2Proof.Machine

/-- Integers below and above `scale * 2cos(π / 2^(n+1))`, by the nested square roots of 2. -/
def rootBounds (scale : Nat) : Nat → Nat × Nat
  | 0 => (0, 0)
  | n + 1 =>
    let b := rootBounds scale n
    (isqrt (2 * scale * scale + scale * b.1), isqrt (2 * scale * scale + scale * b.2) + 1)

/-- The bounds enclose the nested root; `Real.cos_pi_over_two_pow` makes it a cosine. -/
theorem rootBounds_spec (S : Nat) (n : Nat) :
    ((rootBounds S n).1 : ℝ) ≤ S * Real.sqrtTwoAddSeries 0 n ∧
      S * Real.sqrtTwoAddSeries 0 n ≤ ((rootBounds S n).2 : ℝ) := by
  induction n with
  | zero => simp [rootBounds]
  | succ n ih =>
    obtain ⟨h1, h2⟩ := ih
    have hx : 0 ≤ Real.sqrtTwoAddSeries 0 n := Real.sqrtTwoAddSeries_zero_nonneg n
    have e : (S : ℝ) * Real.sqrtTwoAddSeries 0 (n + 1) =
        √(2 * S * S + S * (S * Real.sqrtTwoAddSeries 0 n)) := by
      rw [Real.sqrtTwoAddSeries, show (2 : ℝ) * S * S + S * (S * Real.sqrtTwoAddSeries 0 n) =
          S ^ 2 * (2 + Real.sqrtTwoAddSeries 0 n) by ring,
        Real.sqrt_mul (by positivity), Real.sqrt_sq (by positivity)]
    have q1 := isqrt_spec (2 * S * S + S * (rootBounds S n).1)
    have q2 := isqrt_spec (2 * S * S + S * (rootBounds S n).2)
    simp only [rootBounds]
    rw [e]
    generalize (rootBounds S n).1 = l at *
    generalize (rootBounds S n).2 = u at *
    have q1' : ((isqrt (2 * S * S + S * l) : ℝ) * isqrt (2 * S * S + S * l)) ≤ 2 * S * S + S * l := by
      exact_mod_cast q1.1
    have q2' : (2 * S * S + S * u : ℝ) ≤
        ((isqrt (2 * S * S + S * u) + 1 : ℝ) * (isqrt (2 * S * S + S * u) + 1)) := by
      exact_mod_cast q2.2.le
    have hS : (0 : ℝ) ≤ S := by positivity
    have m1 := mul_le_mul_of_nonneg_left h1 hS
    have m2 := mul_le_mul_of_nonneg_left h2 hS
    constructor
    · apply Real.le_sqrt_of_sq_le; nlinarith
    · rw [Real.sqrt_le_iff]; push_cast; refine ⟨by positivity, by nlinarith⟩

/-- Integer approximations of `T cos(nx)` and `T cos((n+1)x)`, each with a bound on its error, from one of
`T cos x`: the recurrence `cos((n+2)x) = 2cos(x)cos((n+1)x) - cos(nx)`. -/
def cosBounds (T A e : Int) : Nat → (Int × Int) × (Int × Int)
  | 0 => ((T, 0), (A, e))
  | n + 1 =>
    let b := cosBounds T A e n
    (b.2, (2 * A * b.2.1 / T - b.1.1, 2 * b.2.2 + b.1.2 + 2 * e + 1))

/-- Each approximation is within its error bound. -/
theorem cosBounds_spec (T A e : Int) (x : ℝ) (hT : 0 < T) (hA : 0 ≤ A) (hA2 : A ≤ T)
    (h : |T * Real.cos x - A| ≤ e) (n : Nat) :
    |T * Real.cos (n * x) - (cosBounds T A e n).1.1| ≤ (cosBounds T A e n).1.2 ∧
    |T * Real.cos ((n + 1) * x) - (cosBounds T A e n).2.1| ≤ (cosBounds T A e n).2.2 := by
  induction n with
  | zero => simpa [cosBounds] using h
  | succ n ih =>
    obtain ⟨h1, h2⟩ := ih
    have hT' : (0 : ℝ) < T := by exact_mod_cast hT
    refine ⟨by simpa [cosBounds] using h2, ?_⟩
    simp only [cosBounds]
    generalize (cosBounds T A e n).1.1 = p at *
    generalize (cosBounds T A e n).1.2 = ep at *
    generalize (cosBounds T A e n).2.1 = q at *
    generalize (cosBounds T A e n).2.2 = eq at *
    have rec1 : Real.cos ((n + 1 + 1) * x) =
        2 * Real.cos x * Real.cos ((n + 1) * x) - Real.cos (n * x) := by
      have e1 : ((n : ℝ) + 1 + 1) * x = (n + 1) * x + x := by ring
      have e2 : (n : ℝ) * x = (n + 1) * x - x := by ring
      rw [e1, e2, Real.cos_add, Real.cos_sub]; ring
    push_cast
    rw [rec1]
    have hd1 : ((2 * A * q / T : Int) : ℝ) * T ≤ 2 * A * q := by
      exact_mod_cast Int.ediv_mul_le _ hT.ne'
    have hd2 : (2 * A * q : ℝ) < (((2 * A * q / T : Int) : ℝ) + 1) * T := by
      exact_mod_cast Int.lt_ediv_add_one_mul_self _ hT
    generalize ((2 * A * q / T : Int) : ℝ) = d at *
    have hc := Real.abs_cos_le_one ((n + 1) * x)
    set c := Real.cos ((n + 1) * x)
    set c1 := Real.cos x
    have hAr : (0 : ℝ) ≤ A := by exact_mod_cast hA
    have hAr2 : (A : ℝ) / T ≤ 1 := by rw [div_le_one hT']; exact_mod_cast hA2
    have hAr0 : (0 : ℝ) ≤ A / T := by positivity
    have key : T * (2 * c1 * c - Real.cos (n * x)) - (d - p) =
        2 * (c * (T * c1 - A)) + 2 * ((A / T) * (T * c - q)) + (2 * A * q / T - d)
          - (T * Real.cos (n * x) - p) := by
      field_simp; ring
    rw [key]
    have b1 : |c * (T * c1 - A)| ≤ e := by
      rw [abs_mul]; calc _ ≤ 1 * |T * c1 - A| := by gcongr
        _ ≤ e := by simpa using h
    have b2 : |(A / T) * (T * c - q)| ≤ eq := by
      rw [abs_mul, abs_of_nonneg hAr0]; calc _ ≤ 1 * |T * c - q| := by gcongr
        _ ≤ eq := by simpa using h2
    have b3 : |2 * A * q / T - d| ≤ 1 := by
      rw [abs_le]; constructor
      · have : d ≤ 2 * A * q / T := by rw [le_div_iff₀ hT']; exact hd1
        linarith
      · have : 2 * A * q / T < d + 1 := by rw [div_lt_iff₀ hT']; exact hd2
        linarith
    rw [abs_le] at *
    constructor <;> linarith [b1.1, b1.2, b2.1, b2.2, b3.1, b3.2, h1.1, h1.2]

end Sys2Proof.Machine
end

