-- ==== Sys2Proof/Laws/Encoding.lean ====
section
/-! SUPPORT. The fields of an assembled command word (30_encoding.md R62, R79). -/

namespace Sys2Proof

/-- `word = OP * 2^36 + IDX * 2^32 + DATA` (R79). -/
theorem commandWord_toNat (op : OpCode) (idx : Idx) (data : Data) :
    (commandWord op idx data).toNat = op.toNat * 2 ^ 36 + idx.toNat * 2 ^ 32 + data.toNat := by
  have h1 : (commandWord op idx data).toNat =
      (op.toNat <<< 4 ||| idx.toNat) <<< 32 ||| data.toNat := by
    unfold commandWord
    erw [BitVec.toNat_append, BitVec.toNat_append]
  rw [h1, ← Nat.shiftLeft_add_eq_or_of_lt idx.isLt, ← Nat.shiftLeft_add_eq_or_of_lt data.isLt,
    Nat.shiftLeft_eq, Nat.shiftLeft_eq]
  omega

theorem opField_commandWord (op : OpCode) (idx : Idx) (data : Data) :
    opField (commandWord op idx data) = op := by
  have := op.isLt
  have := idx.isLt
  have := data.isLt
  apply BitVec.eq_of_toNat_eq
  simp [opField, BitVec.extractLsb'_toNat, commandWord_toNat, Nat.shiftRight_eq_div_pow]
  omega

theorem idxField_commandWord (op : OpCode) (idx : Idx) (data : Data) :
    idxField (commandWord op idx data) = idx := by
  have := idx.isLt
  have := data.isLt
  apply BitVec.eq_of_toNat_eq
  simp [idxField, BitVec.extractLsb'_toNat, commandWord_toNat, Nat.shiftRight_eq_div_pow]
  omega

theorem dataField_commandWord (op : OpCode) (idx : Idx) (data : Data) :
    dataField (commandWord op idx data) = data := by
  have := data.isLt
  apply BitVec.eq_of_toNat_eq
  simp [dataField, BitVec.extractLsb'_toNat, commandWord_toNat]
  omega

end Sys2Proof
end

