-- ==== Sys2Proof/Laws/State.lean ====
section
/-! SUPPORT. One lemma per field per update of the state, true by rfl: later proofs rewrite with these and
unfold no record update. -/

namespace Sys2Proof.Machine

/-! The fields of `respond`. -/

@[simp] theorem respond_build (st : RspStatus) (d : Data) (s : State) :
    (respond st d s).build = s.build := rfl
@[simp] theorem respond_cfg (st : RspStatus) (d : Data) (s : State) :
    (respond st d s).cfg = s.cfg := rfl
@[simp] theorem respond_enabled (st : RspStatus) (d : Data) (s : State) :
    (respond st d s).enabled = s.enabled := rfl
@[simp] theorem respond_target (st : RspStatus) (d : Data) (s : State) :
    (respond st d s).target = s.target := rfl
@[simp] theorem respond_lastUpdate (st : RspStatus) (d : Data) (s : State) :
    (respond st d s).lastUpdate = s.lastUpdate := rfl
@[simp] theorem respond_duty (st : RspStatus) (d : Data) (s : State) :
    (respond st d s).duty = s.duty := rfl
@[simp] theorem respond_pwmA (st : RspStatus) (d : Data) (s : State) :
    (respond st d s).pwmA = s.pwmA := rfl
@[simp] theorem respond_pwmB (st : RspStatus) (d : Data) (s : State) :
    (respond st d s).pwmB = s.pwmB := rfl
@[simp] theorem respond_flags (st : RspStatus) (d : Data) (s : State) :
    (respond st d s).flags = s.flags := rfl
@[simp] theorem respond_lastTickFault (st : RspStatus) (d : Data) (s : State) :
    (respond st d s).lastTickFault = s.lastTickFault := rfl
@[simp] theorem respond_lastLength (st : RspStatus) (d : Data) (s : State) :
    (respond st d s).lastLength = s.lastLength := rfl
@[simp] theorem respond_lastRaw (st : RspStatus) (d : Data) (s : State) :
    (respond st d s).lastRaw = s.lastRaw := rfl
@[simp] theorem respond_tickCount (st : RspStatus) (d : Data) (s : State) :
    (respond st d s).tickCount = s.tickCount := rfl
@[simp] theorem respond_tickFlight (st : RspStatus) (d : Data) (s : State) :
    (respond st d s).tickFlight = s.tickFlight := rfl
@[simp] theorem respond_queryFlight (st : RspStatus) (d : Data) (s : State) :
    (respond st d s).queryFlight = s.queryFlight := rfl
@[simp] theorem respond_rspValid (st : RspStatus) (d : Data) (s : State) :
    (respond st d s).rspValid = true := rfl
@[simp] theorem respond_rspStatus (st : RspStatus) (d : Data) (s : State) :
    (respond st d s).rspStatus = st.code := rfl
@[simp] theorem respond_rspData (st : RspStatus) (d : Data) (s : State) :
    (respond st d s).rspData = d := rfl
@[simp] theorem respond_encStrobe (st : RspStatus) (d : Data) (s : State) :
    (respond st d s).encStrobe = s.encStrobe := rfl
@[simp] theorem respond_cycle (st : RspStatus) (d : Data) (s : State) :
    (respond st d s).cycle = s.cycle := rfl
@[simp] theorem respond_pins (st : RspStatus) (d : Data) (s : State) :
    (respond st d s).pins = s.pins := rfl
@[simp] theorem respond_stimulus (st : RspStatus) (d : Data) (s : State) :
    (respond st d s).stimulus = s.stimulus := rfl

/-! The fields of `setFlag`. -/

@[simp] theorem setFlag_build (f : Flag) (s : State) : (setFlag f s).build = s.build := rfl
@[simp] theorem setFlag_cfg (f : Flag) (s : State) : (setFlag f s).cfg = s.cfg := rfl
@[simp] theorem setFlag_enabled (f : Flag) (s : State) : (setFlag f s).enabled = s.enabled := rfl
@[simp] theorem setFlag_target (f : Flag) (s : State) : (setFlag f s).target = s.target := rfl
@[simp] theorem setFlag_lastUpdate (f : Flag) (s : State) :
    (setFlag f s).lastUpdate = s.lastUpdate := rfl
@[simp] theorem setFlag_duty (f : Flag) (s : State) : (setFlag f s).duty = s.duty := rfl
@[simp] theorem setFlag_pwmA (f : Flag) (s : State) : (setFlag f s).pwmA = s.pwmA := rfl
@[simp] theorem setFlag_pwmB (f : Flag) (s : State) : (setFlag f s).pwmB = s.pwmB := rfl
@[simp] theorem setFlag_flags (f : Flag) (s : State) :
    (setFlag f s).flags = s.flags ||| f.mask := rfl
@[simp] theorem setFlag_lastTickFault (f : Flag) (s : State) :
    (setFlag f s).lastTickFault = s.lastTickFault := rfl
@[simp] theorem setFlag_lastLength (f : Flag) (s : State) :
    (setFlag f s).lastLength = s.lastLength := rfl
@[simp] theorem setFlag_lastRaw (f : Flag) (s : State) : (setFlag f s).lastRaw = s.lastRaw := rfl
@[simp] theorem setFlag_tickCount (f : Flag) (s : State) :
    (setFlag f s).tickCount = s.tickCount := rfl
@[simp] theorem setFlag_tickFlight (f : Flag) (s : State) :
    (setFlag f s).tickFlight = s.tickFlight := rfl
@[simp] theorem setFlag_queryFlight (f : Flag) (s : State) :
    (setFlag f s).queryFlight = s.queryFlight := rfl
@[simp] theorem setFlag_rspValid (f : Flag) (s : State) : (setFlag f s).rspValid = s.rspValid := rfl
@[simp] theorem setFlag_rspStatus (f : Flag) (s : State) :
    (setFlag f s).rspStatus = s.rspStatus := rfl
@[simp] theorem setFlag_rspData (f : Flag) (s : State) : (setFlag f s).rspData = s.rspData := rfl
@[simp] theorem setFlag_encStrobe (f : Flag) (s : State) :
    (setFlag f s).encStrobe = s.encStrobe := rfl
@[simp] theorem setFlag_cycle (f : Flag) (s : State) : (setFlag f s).cycle = s.cycle := rfl
@[simp] theorem setFlag_pins (f : Flag) (s : State) : (setFlag f s).pins = s.pins := rfl
@[simp] theorem setFlag_stimulus (f : Flag) (s : State) : (setFlag f s).stimulus = s.stimulus := rfl

/-! The fields of `markSampled`. -/

@[simp] theorem markSampled_build (s : State) : (markSampled s).build = s.build := rfl
@[simp] theorem markSampled_cfg (s : State) : (markSampled s).cfg = s.cfg := rfl
@[simp] theorem markSampled_enabled (s : State) : (markSampled s).enabled = s.enabled := rfl
@[simp] theorem markSampled_target (s : State) : (markSampled s).target = s.target := rfl
@[simp] theorem markSampled_lastUpdate (s : State) :
    (markSampled s).lastUpdate = s.lastUpdate := rfl
@[simp] theorem markSampled_duty (s : State) : (markSampled s).duty = s.duty := rfl
@[simp] theorem markSampled_pwmA (s : State) : (markSampled s).pwmA = s.pwmA := rfl
@[simp] theorem markSampled_pwmB (s : State) : (markSampled s).pwmB = s.pwmB := rfl
@[simp] theorem markSampled_flags (s : State) : (markSampled s).flags = s.flags := rfl
@[simp] theorem markSampled_lastTickFault (s : State) :
    (markSampled s).lastTickFault = s.lastTickFault := rfl
@[simp] theorem markSampled_lastLength (s : State) :
    (markSampled s).lastLength = s.lastLength := rfl
@[simp] theorem markSampled_lastRaw (s : State) : (markSampled s).lastRaw = s.lastRaw := rfl
@[simp] theorem markSampled_tickCount (s : State) : (markSampled s).tickCount = s.tickCount := rfl
@[simp] theorem markSampled_tickFlight (s : State) :
    (markSampled s).tickFlight = s.tickFlight := rfl
@[simp] theorem markSampled_queryFlight (s : State) :
    (markSampled s).queryFlight = s.queryFlight := rfl
@[simp] theorem markSampled_rspValid (s : State) : (markSampled s).rspValid = s.rspValid := rfl
@[simp] theorem markSampled_rspStatus (s : State) : (markSampled s).rspStatus = s.rspStatus := rfl
@[simp] theorem markSampled_rspData (s : State) : (markSampled s).rspData = s.rspData := rfl
@[simp] theorem markSampled_encStrobe (s : State) : (markSampled s).encStrobe = true := rfl
@[simp] theorem markSampled_cycle (s : State) : (markSampled s).cycle = s.cycle := rfl
@[simp] theorem markSampled_pins (s : State) : (markSampled s).pins = s.pins := rfl
@[simp] theorem markSampled_stimulus (s : State) : (markSampled s).stimulus = s.stimulus := rfl

/-! The fields of `beginCycle`. -/

@[simp] theorem beginCycle_build (s : State) : (beginCycle s).build = s.build := rfl
@[simp] theorem beginCycle_cfg (s : State) : (beginCycle s).cfg = s.cfg := rfl
@[simp] theorem beginCycle_enabled (s : State) : (beginCycle s).enabled = s.enabled := rfl
@[simp] theorem beginCycle_target (s : State) : (beginCycle s).target = s.target := rfl
@[simp] theorem beginCycle_lastUpdate (s : State) : (beginCycle s).lastUpdate = s.lastUpdate := rfl
@[simp] theorem beginCycle_duty (s : State) : (beginCycle s).duty = s.duty := rfl
@[simp] theorem beginCycle_pwmA (s : State) : (beginCycle s).pwmA = s.pwmA := rfl
@[simp] theorem beginCycle_pwmB (s : State) : (beginCycle s).pwmB = s.pwmB := rfl
@[simp] theorem beginCycle_flags (s : State) : (beginCycle s).flags = s.flags := rfl
@[simp] theorem beginCycle_lastTickFault (s : State) :
    (beginCycle s).lastTickFault = s.lastTickFault := rfl
@[simp] theorem beginCycle_lastLength (s : State) : (beginCycle s).lastLength = s.lastLength := rfl
@[simp] theorem beginCycle_lastRaw (s : State) : (beginCycle s).lastRaw = s.lastRaw := rfl
@[simp] theorem beginCycle_tickCount (s : State) : (beginCycle s).tickCount = s.tickCount := rfl
@[simp] theorem beginCycle_tickFlight (s : State) : (beginCycle s).tickFlight = s.tickFlight := rfl
@[simp] theorem beginCycle_queryFlight (s : State) :
    (beginCycle s).queryFlight = s.queryFlight := rfl
@[simp] theorem beginCycle_rspValid (s : State) : (beginCycle s).rspValid = false := rfl
@[simp] theorem beginCycle_rspStatus (s : State) : (beginCycle s).rspStatus = 0#2 := rfl
@[simp] theorem beginCycle_rspData (s : State) : (beginCycle s).rspData = 0#32 := rfl
@[simp] theorem beginCycle_encStrobe (s : State) : (beginCycle s).encStrobe = false := rfl
@[simp] theorem beginCycle_cycle (s : State) : (beginCycle s).cycle = s.cycle := rfl
@[simp] theorem beginCycle_pins (s : State) : (beginCycle s).pins = s.pins := rfl
@[simp] theorem beginCycle_stimulus (s : State) : (beginCycle s).stimulus = s.stimulus := rfl

/-! The fields of `closeCycle`. -/

@[simp] theorem closeCycle_build (start : State) (s : State) :
    (closeCycle start s).build = s.build := rfl
@[simp] theorem closeCycle_cfg (start : State) (s : State) : (closeCycle start s).cfg = s.cfg := rfl
@[simp] theorem closeCycle_enabled (start : State) (s : State) :
    (closeCycle start s).enabled = s.enabled := rfl
@[simp] theorem closeCycle_target (start : State) (s : State) :
    (closeCycle start s).target = s.target := rfl
@[simp] theorem closeCycle_lastUpdate (start : State) (s : State) :
    (closeCycle start s).lastUpdate = s.lastUpdate := rfl
@[simp] theorem closeCycle_duty (start : State) (s : State) :
    (closeCycle start s).duty = s.duty := rfl
@[simp] theorem closeCycle_pwmA (start : State) (s : State) :
    (closeCycle start s).pwmA = s.pwmA := rfl
@[simp] theorem closeCycle_pwmB (start : State) (s : State) :
    (closeCycle start s).pwmB = s.pwmB := rfl
@[simp] theorem closeCycle_flags (start : State) (s : State) :
    (closeCycle start s).flags = s.flags := rfl
@[simp] theorem closeCycle_lastTickFault (start : State) (s : State) :
    (closeCycle start s).lastTickFault = s.lastTickFault := rfl
@[simp] theorem closeCycle_lastLength (start : State) (s : State) :
    (closeCycle start s).lastLength = s.lastLength := rfl
@[simp] theorem closeCycle_lastRaw (start : State) (s : State) :
    (closeCycle start s).lastRaw = s.lastRaw := rfl
@[simp] theorem closeCycle_tickCount (start : State) (s : State) :
    (closeCycle start s).tickCount = s.tickCount := rfl
@[simp] theorem closeCycle_tickFlight (start : State) (s : State) :
    (closeCycle start s).tickFlight = s.tickFlight := rfl
@[simp] theorem closeCycle_queryFlight (start : State) (s : State) :
    (closeCycle start s).queryFlight = s.queryFlight := rfl
@[simp] theorem closeCycle_rspValid (start : State) (s : State) :
    (closeCycle start s).rspValid = s.rspValid := rfl
@[simp] theorem closeCycle_rspStatus (start : State) (s : State) :
    (closeCycle start s).rspStatus = s.rspStatus := rfl
@[simp] theorem closeCycle_rspData (start : State) (s : State) :
    (closeCycle start s).rspData = s.rspData := rfl
@[simp] theorem closeCycle_encStrobe (start : State) (s : State) :
    (closeCycle start s).encStrobe = s.encStrobe := rfl
@[simp] theorem closeCycle_cycle (start : State) (s : State) :
    (closeCycle start s).cycle = start.cycle + 1 := rfl
@[simp] theorem closeCycle_pins (start : State) (s : State) :
    (closeCycle start s).pins = nextPins start := rfl
@[simp] theorem closeCycle_stimulus (start : State) (s : State) :
    (closeCycle start s).stimulus = start.stimulus.tail := rfl

/-! The fields of `setDuty`. -/

@[simp] theorem setDuty_build (fs : Level) (d : Int) (s : State) :
    (setDuty fs d s).build = s.build := rfl
@[simp] theorem setDuty_cfg (fs : Level) (d : Int) (s : State) : (setDuty fs d s).cfg = s.cfg := rfl
@[simp] theorem setDuty_enabled (fs : Level) (d : Int) (s : State) :
    (setDuty fs d s).enabled = s.enabled := rfl
@[simp] theorem setDuty_target (fs : Level) (d : Int) (s : State) :
    (setDuty fs d s).target = s.target := rfl
@[simp] theorem setDuty_lastUpdate (fs : Level) (d : Int) (s : State) :
    (setDuty fs d s).lastUpdate = s.lastUpdate := rfl
@[simp] theorem setDuty_duty (fs : Level) (d : Int) (s : State) :
    (setDuty fs d s).duty = BitVec.ofInt 16 (clampDuty fs d) := rfl
@[simp] theorem setDuty_pwmA (fs : Level) (d : Int) (s : State) :
    (setDuty fs d s).pwmA = if 0 < clampDuty fs d then BitVec.ofInt 15 (clampDuty fs d) else 0#15 := rfl
@[simp] theorem setDuty_pwmB (fs : Level) (d : Int) (s : State) :
    (setDuty fs d s).pwmB = if 0 < clampDuty fs d then 0#15 else BitVec.ofInt 15 (-(clampDuty fs d)) := rfl
@[simp] theorem setDuty_flags (fs : Level) (d : Int) (s : State) :
    (setDuty fs d s).flags = s.flags := rfl
@[simp] theorem setDuty_lastTickFault (fs : Level) (d : Int) (s : State) :
    (setDuty fs d s).lastTickFault = s.lastTickFault := rfl
@[simp] theorem setDuty_lastLength (fs : Level) (d : Int) (s : State) :
    (setDuty fs d s).lastLength = s.lastLength := rfl
@[simp] theorem setDuty_lastRaw (fs : Level) (d : Int) (s : State) :
    (setDuty fs d s).lastRaw = s.lastRaw := rfl
@[simp] theorem setDuty_tickCount (fs : Level) (d : Int) (s : State) :
    (setDuty fs d s).tickCount = s.tickCount := rfl
@[simp] theorem setDuty_tickFlight (fs : Level) (d : Int) (s : State) :
    (setDuty fs d s).tickFlight = s.tickFlight := rfl
@[simp] theorem setDuty_queryFlight (fs : Level) (d : Int) (s : State) :
    (setDuty fs d s).queryFlight = s.queryFlight := rfl
@[simp] theorem setDuty_rspValid (fs : Level) (d : Int) (s : State) :
    (setDuty fs d s).rspValid = s.rspValid := rfl
@[simp] theorem setDuty_rspStatus (fs : Level) (d : Int) (s : State) :
    (setDuty fs d s).rspStatus = s.rspStatus := rfl
@[simp] theorem setDuty_rspData (fs : Level) (d : Int) (s : State) :
    (setDuty fs d s).rspData = s.rspData := rfl
@[simp] theorem setDuty_encStrobe (fs : Level) (d : Int) (s : State) :
    (setDuty fs d s).encStrobe = s.encStrobe := rfl
@[simp] theorem setDuty_cycle (fs : Level) (d : Int) (s : State) :
    (setDuty fs d s).cycle = s.cycle := rfl
@[simp] theorem setDuty_pins (fs : Level) (d : Int) (s : State) :
    (setDuty fs d s).pins = s.pins := rfl
@[simp] theorem setDuty_stimulus (fs : Level) (d : Int) (s : State) :
    (setDuty fs d s).stimulus = s.stimulus := rfl

end Sys2Proof.Machine
end

