-- ==== Sys2Proof/Laws/Frame.lean ====
section
/-! SUPPORT. The frame of each shared operation, one lemma per field it leaves alone: what an emergency
stop, an applied tick, an accepted tick and a commit do not write (41_controller.md R101 to R112,
70_reset_and_hazards.md R158 to R164). -/

namespace Sys2Proof.Machine

/-! What `abortTick` leaves unchanged. -/

@[simp] theorem abortTick_build (s : State) : (abortTick s).build = s.build := by
  unfold abortTick; split <;> rfl
@[simp] theorem abortTick_cfg (s : State) : (abortTick s).cfg = s.cfg := by
  unfold abortTick; split <;> rfl
@[simp] theorem abortTick_enabled (s : State) : (abortTick s).enabled = s.enabled := by
  unfold abortTick; split <;> rfl
@[simp] theorem abortTick_target (s : State) : (abortTick s).target = s.target := by
  unfold abortTick; split <;> rfl
@[simp] theorem abortTick_lastUpdate (s : State) : (abortTick s).lastUpdate = s.lastUpdate := by
  unfold abortTick; split <;> rfl
@[simp] theorem abortTick_duty (s : State) : (abortTick s).duty = s.duty := by
  unfold abortTick; split <;> rfl
@[simp] theorem abortTick_pwmA (s : State) : (abortTick s).pwmA = s.pwmA := by
  unfold abortTick; split <;> rfl
@[simp] theorem abortTick_pwmB (s : State) : (abortTick s).pwmB = s.pwmB := by
  unfold abortTick; split <;> rfl
@[simp] theorem abortTick_lastTickFault (s : State) : (abortTick s).lastTickFault = s.lastTickFault := by
  unfold abortTick; split <;> rfl
@[simp] theorem abortTick_lastLength (s : State) : (abortTick s).lastLength = s.lastLength := by
  unfold abortTick; split <;> rfl
@[simp] theorem abortTick_lastRaw (s : State) : (abortTick s).lastRaw = s.lastRaw := by
  unfold abortTick; split <;> rfl
@[simp] theorem abortTick_tickCount (s : State) : (abortTick s).tickCount = s.tickCount := by
  unfold abortTick; split <;> rfl
@[simp] theorem abortTick_queryFlight (s : State) : (abortTick s).queryFlight = s.queryFlight := by
  unfold abortTick; split <;> rfl
@[simp] theorem abortTick_rspValid (s : State) : (abortTick s).rspValid = s.rspValid := by
  unfold abortTick; split <;> rfl
@[simp] theorem abortTick_rspStatus (s : State) : (abortTick s).rspStatus = s.rspStatus := by
  unfold abortTick; split <;> rfl
@[simp] theorem abortTick_rspData (s : State) : (abortTick s).rspData = s.rspData := by
  unfold abortTick; split <;> rfl
@[simp] theorem abortTick_encStrobe (s : State) : (abortTick s).encStrobe = s.encStrobe := by
  unfold abortTick; split <;> rfl
@[simp] theorem abortTick_cycle (s : State) : (abortTick s).cycle = s.cycle := by
  unfold abortTick; split <;> rfl
@[simp] theorem abortTick_pins (s : State) : (abortTick s).pins = s.pins := by
  unfold abortTick; split <;> rfl
@[simp] theorem abortTick_stimulus (s : State) : (abortTick s).stimulus = s.stimulus := by
  unfold abortTick; split <;> rfl

/-! What `eStopEffect` leaves unchanged. -/

@[simp] theorem eStopEffect_build (s : State) : (eStopEffect s).build = s.build := by
  simp [eStopEffect]
@[simp] theorem eStopEffect_cfg (s : State) : (eStopEffect s).cfg = s.cfg := by
  simp [eStopEffect]
@[simp] theorem eStopEffect_target (s : State) : (eStopEffect s).target = s.target := by
  simp [eStopEffect]
@[simp] theorem eStopEffect_lastUpdate (s : State) : (eStopEffect s).lastUpdate = s.lastUpdate := by
  simp [eStopEffect]
@[simp] theorem eStopEffect_lastTickFault (s : State) : (eStopEffect s).lastTickFault = s.lastTickFault := by
  simp [eStopEffect]
@[simp] theorem eStopEffect_lastLength (s : State) : (eStopEffect s).lastLength = s.lastLength := by
  simp [eStopEffect]
@[simp] theorem eStopEffect_lastRaw (s : State) : (eStopEffect s).lastRaw = s.lastRaw := by
  simp [eStopEffect]
@[simp] theorem eStopEffect_tickCount (s : State) : (eStopEffect s).tickCount = s.tickCount := by
  simp [eStopEffect]
@[simp] theorem eStopEffect_queryFlight (s : State) : (eStopEffect s).queryFlight = s.queryFlight := by
  simp [eStopEffect]
@[simp] theorem eStopEffect_rspValid (s : State) : (eStopEffect s).rspValid = s.rspValid := by
  simp [eStopEffect]
@[simp] theorem eStopEffect_rspStatus (s : State) : (eStopEffect s).rspStatus = s.rspStatus := by
  simp [eStopEffect]
@[simp] theorem eStopEffect_rspData (s : State) : (eStopEffect s).rspData = s.rspData := by
  simp [eStopEffect]
@[simp] theorem eStopEffect_encStrobe (s : State) : (eStopEffect s).encStrobe = s.encStrobe := by
  simp [eStopEffect]
@[simp] theorem eStopEffect_cycle (s : State) : (eStopEffect s).cycle = s.cycle := by
  simp [eStopEffect]
@[simp] theorem eStopEffect_pins (s : State) : (eStopEffect s).pins = s.pins := by
  simp [eStopEffect]
@[simp] theorem eStopEffect_stimulus (s : State) : (eStopEffect s).stimulus = s.stimulus := by
  simp [eStopEffect]

/-! What `driveDuty` leaves unchanged. -/

@[simp] theorem driveDuty_build (snap : Snapshot) (s : State) : (driveDuty snap s).build = s.build := by
  unfold driveDuty; dsimp only; repeat' split
  all_goals rfl
@[simp] theorem driveDuty_cfg (snap : Snapshot) (s : State) : (driveDuty snap s).cfg = s.cfg := by
  unfold driveDuty; dsimp only; repeat' split
  all_goals rfl
@[simp] theorem driveDuty_enabled (snap : Snapshot) (s : State) : (driveDuty snap s).enabled = s.enabled := by
  unfold driveDuty; dsimp only; repeat' split
  all_goals rfl
@[simp] theorem driveDuty_target (snap : Snapshot) (s : State) : (driveDuty snap s).target = s.target := by
  unfold driveDuty; dsimp only; repeat' split
  all_goals rfl
@[simp] theorem driveDuty_lastUpdate (snap : Snapshot) (s : State) : (driveDuty snap s).lastUpdate = s.lastUpdate := by
  unfold driveDuty; dsimp only; repeat' split
  all_goals rfl
@[simp] theorem driveDuty_lastTickFault (snap : Snapshot) (s : State) : (driveDuty snap s).lastTickFault = s.lastTickFault := by
  unfold driveDuty; dsimp only; repeat' split
  all_goals rfl
@[simp] theorem driveDuty_lastLength (snap : Snapshot) (s : State) : (driveDuty snap s).lastLength = s.lastLength := by
  unfold driveDuty; dsimp only; repeat' split
  all_goals rfl
@[simp] theorem driveDuty_lastRaw (snap : Snapshot) (s : State) : (driveDuty snap s).lastRaw = s.lastRaw := by
  unfold driveDuty; dsimp only; repeat' split
  all_goals rfl
@[simp] theorem driveDuty_tickCount (snap : Snapshot) (s : State) : (driveDuty snap s).tickCount = s.tickCount := by
  unfold driveDuty; dsimp only; repeat' split
  all_goals rfl
@[simp] theorem driveDuty_tickFlight (snap : Snapshot) (s : State) : (driveDuty snap s).tickFlight = s.tickFlight := by
  unfold driveDuty; dsimp only; repeat' split
  all_goals rfl
@[simp] theorem driveDuty_queryFlight (snap : Snapshot) (s : State) : (driveDuty snap s).queryFlight = s.queryFlight := by
  unfold driveDuty; dsimp only; repeat' split
  all_goals rfl
@[simp] theorem driveDuty_rspValid (snap : Snapshot) (s : State) : (driveDuty snap s).rspValid = s.rspValid := by
  unfold driveDuty; dsimp only; repeat' split
  all_goals rfl
@[simp] theorem driveDuty_rspStatus (snap : Snapshot) (s : State) : (driveDuty snap s).rspStatus = s.rspStatus := by
  unfold driveDuty; dsimp only; repeat' split
  all_goals rfl
@[simp] theorem driveDuty_rspData (snap : Snapshot) (s : State) : (driveDuty snap s).rspData = s.rspData := by
  unfold driveDuty; dsimp only; repeat' split
  all_goals rfl
@[simp] theorem driveDuty_encStrobe (snap : Snapshot) (s : State) : (driveDuty snap s).encStrobe = s.encStrobe := by
  unfold driveDuty; dsimp only; repeat' split
  all_goals rfl
@[simp] theorem driveDuty_cycle (snap : Snapshot) (s : State) : (driveDuty snap s).cycle = s.cycle := by
  unfold driveDuty; dsimp only; repeat' split
  all_goals rfl
@[simp] theorem driveDuty_pins (snap : Snapshot) (s : State) : (driveDuty snap s).pins = s.pins := by
  unfold driveDuty; dsimp only; repeat' split
  all_goals rfl
@[simp] theorem driveDuty_stimulus (snap : Snapshot) (s : State) : (driveDuty snap s).stimulus = s.stimulus := by
  unfold driveDuty; dsimp only; repeat' split
  all_goals rfl

/-! What `applyTick` leaves unchanged. -/

@[simp] theorem applyTick_build (snap : Snapshot) (s : State) : (applyTick snap s).build = s.build := by
  simp [applyTick]
@[simp] theorem applyTick_cfg (snap : Snapshot) (s : State) : (applyTick snap s).cfg = s.cfg := by
  simp [applyTick]
@[simp] theorem applyTick_enabled (snap : Snapshot) (s : State) : (applyTick snap s).enabled = s.enabled := by
  simp [applyTick]
@[simp] theorem applyTick_target (snap : Snapshot) (s : State) : (applyTick snap s).target = s.target := by
  simp [applyTick]
@[simp] theorem applyTick_tickFlight (snap : Snapshot) (s : State) : (applyTick snap s).tickFlight = s.tickFlight := by
  simp [applyTick]
@[simp] theorem applyTick_queryFlight (snap : Snapshot) (s : State) : (applyTick snap s).queryFlight = s.queryFlight := by
  simp [applyTick]
@[simp] theorem applyTick_rspValid (snap : Snapshot) (s : State) : (applyTick snap s).rspValid = s.rspValid := by
  simp [applyTick]
@[simp] theorem applyTick_rspStatus (snap : Snapshot) (s : State) : (applyTick snap s).rspStatus = s.rspStatus := by
  simp [applyTick]
@[simp] theorem applyTick_rspData (snap : Snapshot) (s : State) : (applyTick snap s).rspData = s.rspData := by
  simp [applyTick]
@[simp] theorem applyTick_encStrobe (snap : Snapshot) (s : State) : (applyTick snap s).encStrobe = s.encStrobe := by
  simp [applyTick]
@[simp] theorem applyTick_cycle (snap : Snapshot) (s : State) : (applyTick snap s).cycle = s.cycle := by
  simp [applyTick]
@[simp] theorem applyTick_pins (snap : Snapshot) (s : State) : (applyTick snap s).pins = s.pins := by
  simp [applyTick]
@[simp] theorem applyTick_stimulus (snap : Snapshot) (s : State) : (applyTick snap s).stimulus = s.stimulus := by
  simp [applyTick]

/-! What `acceptTick` leaves unchanged. -/

@[simp] theorem acceptTick_build (now : Time) (s : State) : (acceptTick now s).build = s.build := by
  unfold acceptTick; dsimp only; split <;> simp
@[simp] theorem acceptTick_cfg (now : Time) (s : State) : (acceptTick now s).cfg = s.cfg := by
  unfold acceptTick; dsimp only; split <;> simp
@[simp] theorem acceptTick_enabled (now : Time) (s : State) : (acceptTick now s).enabled = s.enabled := by
  unfold acceptTick; dsimp only; split <;> simp
@[simp] theorem acceptTick_target (now : Time) (s : State) : (acceptTick now s).target = s.target := by
  unfold acceptTick; dsimp only; split <;> simp
@[simp] theorem acceptTick_rspValid (now : Time) (s : State) : (acceptTick now s).rspValid = s.rspValid := by
  unfold acceptTick; dsimp only; split <;> simp
@[simp] theorem acceptTick_rspStatus (now : Time) (s : State) : (acceptTick now s).rspStatus = s.rspStatus := by
  unfold acceptTick; dsimp only; split <;> simp
@[simp] theorem acceptTick_rspData (now : Time) (s : State) : (acceptTick now s).rspData = s.rspData := by
  unfold acceptTick; dsimp only; split <;> simp
@[simp] theorem acceptTick_cycle (now : Time) (s : State) : (acceptTick now s).cycle = s.cycle := by
  unfold acceptTick; dsimp only; split <;> simp
@[simp] theorem acceptTick_pins (now : Time) (s : State) : (acceptTick now s).pins = s.pins := by
  unfold acceptTick; dsimp only; split <;> simp
@[simp] theorem acceptTick_stimulus (now : Time) (s : State) : (acceptTick now s).stimulus = s.stimulus := by
  unfold acceptTick; dsimp only; split <;> simp

/-! What `performTick` leaves unchanged. -/

@[simp] theorem performTick_build (v : TickVerdict) (now : Time) (s : State) : (performTick v now s).build = s.build := by
  cases v <;> simp [performTick]
@[simp] theorem performTick_cfg (v : TickVerdict) (now : Time) (s : State) : (performTick v now s).cfg = s.cfg := by
  cases v <;> simp [performTick]
@[simp] theorem performTick_enabled (v : TickVerdict) (now : Time) (s : State) : (performTick v now s).enabled = s.enabled := by
  cases v <;> simp [performTick]
@[simp] theorem performTick_target (v : TickVerdict) (now : Time) (s : State) : (performTick v now s).target = s.target := by
  cases v <;> simp [performTick]
@[simp] theorem performTick_rspValid (v : TickVerdict) (now : Time) (s : State) : (performTick v now s).rspValid = s.rspValid := by
  cases v <;> simp [performTick]
@[simp] theorem performTick_rspStatus (v : TickVerdict) (now : Time) (s : State) : (performTick v now s).rspStatus = s.rspStatus := by
  cases v <;> simp [performTick]
@[simp] theorem performTick_rspData (v : TickVerdict) (now : Time) (s : State) : (performTick v now s).rspData = s.rspData := by
  cases v <;> simp [performTick]
@[simp] theorem performTick_cycle (v : TickVerdict) (now : Time) (s : State) : (performTick v now s).cycle = s.cycle := by
  cases v <;> simp [performTick]
@[simp] theorem performTick_pins (v : TickVerdict) (now : Time) (s : State) : (performTick v now s).pins = s.pins := by
  cases v <;> simp [performTick]
@[simp] theorem performTick_stimulus (v : TickVerdict) (now : Time) (s : State) : (performTick v now s).stimulus = s.stimulus := by
  cases v <;> simp [performTick]

/-! What `stopPin` leaves unchanged. -/

@[simp] theorem stopPin_build (s : State) : (stopPin s).build = s.build := by
  unfold stopPin; split <;> simp
@[simp] theorem stopPin_cfg (s : State) : (stopPin s).cfg = s.cfg := by
  unfold stopPin; split <;> simp
@[simp] theorem stopPin_target (s : State) : (stopPin s).target = s.target := by
  unfold stopPin; split <;> simp
@[simp] theorem stopPin_lastUpdate (s : State) : (stopPin s).lastUpdate = s.lastUpdate := by
  unfold stopPin; split <;> simp
@[simp] theorem stopPin_lastTickFault (s : State) : (stopPin s).lastTickFault = s.lastTickFault := by
  unfold stopPin; split <;> simp
@[simp] theorem stopPin_lastLength (s : State) : (stopPin s).lastLength = s.lastLength := by
  unfold stopPin; split <;> simp
@[simp] theorem stopPin_lastRaw (s : State) : (stopPin s).lastRaw = s.lastRaw := by
  unfold stopPin; split <;> simp
@[simp] theorem stopPin_tickCount (s : State) : (stopPin s).tickCount = s.tickCount := by
  unfold stopPin; split <;> simp
@[simp] theorem stopPin_queryFlight (s : State) : (stopPin s).queryFlight = s.queryFlight := by
  unfold stopPin; split <;> simp
@[simp] theorem stopPin_rspValid (s : State) : (stopPin s).rspValid = s.rspValid := by
  unfold stopPin; split <;> simp
@[simp] theorem stopPin_rspStatus (s : State) : (stopPin s).rspStatus = s.rspStatus := by
  unfold stopPin; split <;> simp
@[simp] theorem stopPin_rspData (s : State) : (stopPin s).rspData = s.rspData := by
  unfold stopPin; split <;> simp
@[simp] theorem stopPin_encStrobe (s : State) : (stopPin s).encStrobe = s.encStrobe := by
  unfold stopPin; split <;> simp
@[simp] theorem stopPin_cycle (s : State) : (stopPin s).cycle = s.cycle := by
  unfold stopPin; split <;> simp
@[simp] theorem stopPin_pins (s : State) : (stopPin s).pins = s.pins := by
  unfold stopPin; split <;> simp
@[simp] theorem stopPin_stimulus (s : State) : (stopPin s).stimulus = s.stimulus := by
  unfold stopPin; split <;> simp

/-! What `tickPort` leaves unchanged. -/

@[simp] theorem tickPort_build (taken : Bool) (s : State) : (tickPort taken s).build = s.build := by
  unfold tickPort; split <;> simp
@[simp] theorem tickPort_cfg (taken : Bool) (s : State) : (tickPort taken s).cfg = s.cfg := by
  unfold tickPort; split <;> simp
@[simp] theorem tickPort_enabled (taken : Bool) (s : State) : (tickPort taken s).enabled = s.enabled := by
  unfold tickPort; split <;> simp
@[simp] theorem tickPort_target (taken : Bool) (s : State) : (tickPort taken s).target = s.target := by
  unfold tickPort; split <;> simp
@[simp] theorem tickPort_rspValid (taken : Bool) (s : State) : (tickPort taken s).rspValid = s.rspValid := by
  unfold tickPort; split <;> simp
@[simp] theorem tickPort_rspStatus (taken : Bool) (s : State) : (tickPort taken s).rspStatus = s.rspStatus := by
  unfold tickPort; split <;> simp
@[simp] theorem tickPort_rspData (taken : Bool) (s : State) : (tickPort taken s).rspData = s.rspData := by
  unfold tickPort; split <;> simp
@[simp] theorem tickPort_cycle (taken : Bool) (s : State) : (tickPort taken s).cycle = s.cycle := by
  unfold tickPort; split <;> simp
@[simp] theorem tickPort_pins (taken : Bool) (s : State) : (tickPort taken s).pins = s.pins := by
  unfold tickPort; split <;> simp
@[simp] theorem tickPort_stimulus (taken : Bool) (s : State) : (tickPort taken s).stimulus = s.stimulus := by
  unfold tickPort; split <;> simp

/-! What `commitTick` leaves unchanged. -/

@[simp] theorem commitTick_build (s : State) : (commitTick s).build = s.build := by
  unfold commitTick; split <;> [split; skip] <;> simp
@[simp] theorem commitTick_cfg (s : State) : (commitTick s).cfg = s.cfg := by
  unfold commitTick; split <;> [split; skip] <;> simp
@[simp] theorem commitTick_enabled (s : State) : (commitTick s).enabled = s.enabled := by
  unfold commitTick; split <;> [split; skip] <;> simp
@[simp] theorem commitTick_target (s : State) : (commitTick s).target = s.target := by
  unfold commitTick; split <;> [split; skip] <;> simp
@[simp] theorem commitTick_queryFlight (s : State) : (commitTick s).queryFlight = s.queryFlight := by
  unfold commitTick; split <;> [split; skip] <;> simp
@[simp] theorem commitTick_rspValid (s : State) : (commitTick s).rspValid = s.rspValid := by
  unfold commitTick; split <;> [split; skip] <;> simp
@[simp] theorem commitTick_rspStatus (s : State) : (commitTick s).rspStatus = s.rspStatus := by
  unfold commitTick; split <;> [split; skip] <;> simp
@[simp] theorem commitTick_rspData (s : State) : (commitTick s).rspData = s.rspData := by
  unfold commitTick; split <;> [split; skip] <;> simp
@[simp] theorem commitTick_encStrobe (s : State) : (commitTick s).encStrobe = s.encStrobe := by
  unfold commitTick; split <;> [split; skip] <;> simp
@[simp] theorem commitTick_cycle (s : State) : (commitTick s).cycle = s.cycle := by
  unfold commitTick; split <;> [split; skip] <;> simp
@[simp] theorem commitTick_pins (s : State) : (commitTick s).pins = s.pins := by
  unfold commitTick; split <;> [split; skip] <;> simp
@[simp] theorem commitTick_stimulus (s : State) : (commitTick s).stimulus = s.stimulus := by
  unfold commitTick; split <;> [split; skip] <;> simp

/-! What `answerQuery` leaves unchanged. -/

@[simp] theorem answerQuery_build (q : QueryFlight) (s : State) : (answerQuery q s).build = s.build := by
  unfold answerQuery; split <;> rfl
@[simp] theorem answerQuery_cfg (q : QueryFlight) (s : State) : (answerQuery q s).cfg = s.cfg := by
  unfold answerQuery; split <;> rfl
@[simp] theorem answerQuery_enabled (q : QueryFlight) (s : State) : (answerQuery q s).enabled = s.enabled := by
  unfold answerQuery; split <;> rfl
@[simp] theorem answerQuery_target (q : QueryFlight) (s : State) : (answerQuery q s).target = s.target := by
  unfold answerQuery; split <;> rfl
@[simp] theorem answerQuery_lastUpdate (q : QueryFlight) (s : State) : (answerQuery q s).lastUpdate = s.lastUpdate := by
  unfold answerQuery; split <;> rfl
@[simp] theorem answerQuery_duty (q : QueryFlight) (s : State) : (answerQuery q s).duty = s.duty := by
  unfold answerQuery; split <;> rfl
@[simp] theorem answerQuery_pwmA (q : QueryFlight) (s : State) : (answerQuery q s).pwmA = s.pwmA := by
  unfold answerQuery; split <;> rfl
@[simp] theorem answerQuery_pwmB (q : QueryFlight) (s : State) : (answerQuery q s).pwmB = s.pwmB := by
  unfold answerQuery; split <;> rfl
@[simp] theorem answerQuery_flags (q : QueryFlight) (s : State) : (answerQuery q s).flags = s.flags := by
  unfold answerQuery; split <;> rfl
@[simp] theorem answerQuery_lastTickFault (q : QueryFlight) (s : State) : (answerQuery q s).lastTickFault = s.lastTickFault := by
  unfold answerQuery; split <;> rfl
@[simp] theorem answerQuery_lastLength (q : QueryFlight) (s : State) : (answerQuery q s).lastLength = s.lastLength := by
  unfold answerQuery; split <;> rfl
@[simp] theorem answerQuery_lastRaw (q : QueryFlight) (s : State) : (answerQuery q s).lastRaw = s.lastRaw := by
  unfold answerQuery; split <;> rfl
@[simp] theorem answerQuery_tickCount (q : QueryFlight) (s : State) : (answerQuery q s).tickCount = s.tickCount := by
  unfold answerQuery; split <;> rfl
@[simp] theorem answerQuery_tickFlight (q : QueryFlight) (s : State) : (answerQuery q s).tickFlight = s.tickFlight := by
  unfold answerQuery; split <;> rfl
@[simp] theorem answerQuery_queryFlight (q : QueryFlight) (s : State) : (answerQuery q s).queryFlight = s.queryFlight := by
  unfold answerQuery; split <;> rfl
@[simp] theorem answerQuery_encStrobe (q : QueryFlight) (s : State) : (answerQuery q s).encStrobe = s.encStrobe := by
  unfold answerQuery; split <;> rfl
@[simp] theorem answerQuery_cycle (q : QueryFlight) (s : State) : (answerQuery q s).cycle = s.cycle := by
  unfold answerQuery; split <;> rfl
@[simp] theorem answerQuery_pins (q : QueryFlight) (s : State) : (answerQuery q s).pins = s.pins := by
  unfold answerQuery; split <;> rfl
@[simp] theorem answerQuery_stimulus (q : QueryFlight) (s : State) : (answerQuery q s).stimulus = s.stimulus := by
  unfold answerQuery; split <;> rfl

/-! What `commitQuery` leaves unchanged. -/

@[simp] theorem commitQuery_build (s : State) : (commitQuery s).build = s.build := by
  unfold commitQuery; split <;> [split; skip] <;> simp
@[simp] theorem commitQuery_cfg (s : State) : (commitQuery s).cfg = s.cfg := by
  unfold commitQuery; split <;> [split; skip] <;> simp
@[simp] theorem commitQuery_enabled (s : State) : (commitQuery s).enabled = s.enabled := by
  unfold commitQuery; split <;> [split; skip] <;> simp
@[simp] theorem commitQuery_target (s : State) : (commitQuery s).target = s.target := by
  unfold commitQuery; split <;> [split; skip] <;> simp
@[simp] theorem commitQuery_lastUpdate (s : State) : (commitQuery s).lastUpdate = s.lastUpdate := by
  unfold commitQuery; split <;> [split; skip] <;> simp
@[simp] theorem commitQuery_duty (s : State) : (commitQuery s).duty = s.duty := by
  unfold commitQuery; split <;> [split; skip] <;> simp
@[simp] theorem commitQuery_pwmA (s : State) : (commitQuery s).pwmA = s.pwmA := by
  unfold commitQuery; split <;> [split; skip] <;> simp
@[simp] theorem commitQuery_pwmB (s : State) : (commitQuery s).pwmB = s.pwmB := by
  unfold commitQuery; split <;> [split; skip] <;> simp
@[simp] theorem commitQuery_flags (s : State) : (commitQuery s).flags = s.flags := by
  unfold commitQuery; split <;> [split; skip] <;> simp
@[simp] theorem commitQuery_lastTickFault (s : State) : (commitQuery s).lastTickFault = s.lastTickFault := by
  unfold commitQuery; split <;> [split; skip] <;> simp
@[simp] theorem commitQuery_lastLength (s : State) : (commitQuery s).lastLength = s.lastLength := by
  unfold commitQuery; split <;> [split; skip] <;> simp
@[simp] theorem commitQuery_lastRaw (s : State) : (commitQuery s).lastRaw = s.lastRaw := by
  unfold commitQuery; split <;> [split; skip] <;> simp
@[simp] theorem commitQuery_tickCount (s : State) : (commitQuery s).tickCount = s.tickCount := by
  unfold commitQuery; split <;> [split; skip] <;> simp
@[simp] theorem commitQuery_tickFlight (s : State) : (commitQuery s).tickFlight = s.tickFlight := by
  unfold commitQuery; split <;> [split; skip] <;> simp
@[simp] theorem commitQuery_encStrobe (s : State) : (commitQuery s).encStrobe = s.encStrobe := by
  unfold commitQuery; split <;> [split; skip] <;> simp
@[simp] theorem commitQuery_cycle (s : State) : (commitQuery s).cycle = s.cycle := by
  unfold commitQuery; split <;> [split; skip] <;> simp
@[simp] theorem commitQuery_pins (s : State) : (commitQuery s).pins = s.pins := by
  unfold commitQuery; split <;> [split; skip] <;> simp
@[simp] theorem commitQuery_stimulus (s : State) : (commitQuery s).stimulus = s.stimulus := by
  unfold commitQuery; split <;> [split; skip] <;> simp

/-! What `commits` leaves unchanged. -/

@[simp] theorem commits_build (s : State) : (commits s).build = s.build := by
  simp [commits]
@[simp] theorem commits_cfg (s : State) : (commits s).cfg = s.cfg := by
  simp [commits]
@[simp] theorem commits_enabled (s : State) : (commits s).enabled = s.enabled := by
  simp [commits]
@[simp] theorem commits_target (s : State) : (commits s).target = s.target := by
  simp [commits]
@[simp] theorem commits_encStrobe (s : State) : (commits s).encStrobe = s.encStrobe := by
  simp [commits]
@[simp] theorem commits_cycle (s : State) : (commits s).cycle = s.cycle := by
  simp [commits]
@[simp] theorem commits_pins (s : State) : (commits s).pins = s.pins := by
  simp [commits]
@[simp] theorem commits_stimulus (s : State) : (commits s).stimulus = s.stimulus := by
  simp [commits]

/-! What `afterCommand` leaves unchanged. -/

@[simp] theorem afterCommand_build (taken : Bool) (s : State) : (afterCommand taken s).build = s.build := by
  simp [afterCommand]
@[simp] theorem afterCommand_cfg (taken : Bool) (s : State) : (afterCommand taken s).cfg = s.cfg := by
  simp [afterCommand]
@[simp] theorem afterCommand_target (taken : Bool) (s : State) : (afterCommand taken s).target = s.target := by
  simp [afterCommand]
@[simp] theorem afterCommand_cycle (taken : Bool) (s : State) : (afterCommand taken s).cycle = s.cycle := by
  simp [afterCommand]
@[simp] theorem afterCommand_pins (taken : Bool) (s : State) : (afterCommand taken s).pins = s.pins := by
  simp [afterCommand]
@[simp] theorem afterCommand_stimulus (taken : Bool) (s : State) : (afterCommand taken s).stimulus = s.stimulus := by
  simp [afterCommand]

end Sys2Proof.Machine
end

