-- ==== Sys2Proof/Laws/Kinematics.lean ====
section
/-! SUPPORT. The cosine ROM and the radicand (40_kinematics.md R88 to R92): ranges and order, for the
statements about `Kin`. -/

namespace Sys2Proof.Machine

/-- Every entry fits 16 bits and is at most 32768 (R43). -/
theorem romCos_le (k : Nat) : romCos k ≤ 32768 := by
  have h : ∀ x ∈ romTable, x ≤ 32768 := by decide +kernel
  unfold romCos
  rcases lt_or_ge k romTable.length with hk | hk
  · simpa [List.getD_eq_getElem, hk] using h _ (List.getElem_mem hk)
  · simp [hk]

/-- The cosine of a code is within ±32768 (R90). -/
theorem cosCode_bounds (k : Nat) : -32768 ≤ cosCode k ∧ cosCode k ≤ 32768 := by
  have h1 := romCos_le k
  have h2 := romCos_le (512 - k)
  have h3 := romCos_le (k - 512)
  have h4 := romCos_le (1024 - k)
  unfold cosCode
  split_ifs <;> omega

/-- The ROM decreases from each entry to the next (R92). -/
theorem romCos_step (k : Nat) (h : k < 256) : romCos (k + 1) ≤ romCos k := by
  have hall : ∀ i : Fin 256, romCos (i.val + 1) ≤ romCos i.val := by decide +kernel
  exact hall ⟨k, h⟩

end Sys2Proof.Machine
end

