-- ==== Sys2Proof/Laws/Ops.lean ====
section
/-! SUPPORT. One lemma per shared operation that says what it can do: the motor driver, the emergency
stop, the checks of a tick, an applied and an accepted tick, the commits. Later proofs cite these and
unfold no operation. -/

namespace Sys2Proof.Machine

open Sys2Proof.Config

/-- A zero duty switches both channels off (R122). -/
theorem setDuty_zero (fs : Level) (s : State) :
    setDuty fs 0 s = { s with duty := 0#16, pwmA := 0#15, pwmB := 0#15 } := by
  simp [setDuty]

/-- With no tick in flight a stop has nothing to cancel (R101). -/
theorem abortTick_none {s : State} (h : s.tickFlight = none) : abortTick s = s := by
  unfold abortTick; rw [h]

/-- A stop cancels the tick in flight and flags it (R164). -/
theorem abortTick_some {s : State} {f : TickFlight} (h : s.tickFlight = some f) :
    abortTick s = setFlag .tickAborted { s with tickFlight := none } := by
  unfold abortTick; rw [h]

/-- After a stop no tick is in flight (R101, R164). -/
@[simp] theorem abortTick_tickFlight (s : State) : (abortTick s).tickFlight = none := by
  unfold abortTick; split
  · rfl
  · assumption

/-- The flags after a stop: TICK_ABORTED joins them when a tick was in flight (R164). -/
theorem abortTick_flags (s : State) :
    (abortTick s).flags =
      if s.tickFlight.isSome then s.flags ||| Flag.tickAborted.mask else s.flags := by
  unfold abortTick; split <;> simp [*]

/-! What the emergency-stop effect writes (R101). -/

@[simp] theorem eStopEffect_enabled (s : State) : (eStopEffect s).enabled = false := by
  simp [eStopEffect]
@[simp] theorem eStopEffect_duty (s : State) : (eStopEffect s).duty = 0#16 := by
  simp [eStopEffect]
@[simp] theorem eStopEffect_pwmA (s : State) : (eStopEffect s).pwmA = 0#15 := by
  simp [eStopEffect]
@[simp] theorem eStopEffect_pwmB (s : State) : (eStopEffect s).pwmB = 0#15 := by
  simp [eStopEffect]
@[simp] theorem eStopEffect_tickFlight (s : State) : (eStopEffect s).tickFlight = none := by
  simp [eStopEffect]

theorem eStopEffect_flags (s : State) :
    (eStopEffect s).flags =
      if s.tickFlight.isSome then s.flags ||| Flag.tickAborted.mask else s.flags := by
  rw [eStopEffect, abortTick_flags]; rfl

/-- The three ways an applied tick drives the duty (R106, R112). -/
theorem driveDuty_cases (snap : Snapshot) (s : State) :
    ((kin snap.cfg snap.raw).2 = true ∧ snap.cfg.faultPolicy = .zero ∧
      driveDuty snap s = setDuty snap.cfg.dutyFs 0 (setFlag .kinFault s)) ∨
    ((kin snap.cfg snap.raw).2 = true ∧ snap.cfg.faultPolicy = .hold ∧
      driveDuty snap s = setFlag .kinFault s) ∨
    ((kin snap.cfg snap.raw).2 = false ∧
      driveDuty snap s = setDuty snap.cfg.dutyFs
        (pLaw snap.cfg.kp snap.cfg.dutyFs
          (lengthError snap.target (kin snap.cfg snap.raw).1)) s) := by
  unfold driveDuty
  cases h : (kin snap.cfg snap.raw).2
  · simp [h]
  · cases hp : snap.cfg.faultPolicy <;> simp [h]

/-- An applied tick is the drive of the duty after its records (R112). -/
theorem applyTick_eq (snap : Snapshot) (s : State) :
    applyTick snap s = driveDuty snap
      { s with
        lastRaw := snap.raw
        lastLength := (kin snap.cfg snap.raw).1
        lastTickFault := (kin snap.cfg snap.raw).2
        lastUpdate := snap.now
        tickCount := s.tickCount + 1#32 } := rfl

/-! What an applied tick records (R112). -/

@[simp] theorem applyTick_lastRaw (snap : Snapshot) (s : State) :
    (applyTick snap s).lastRaw = snap.raw := by simp [applyTick]
@[simp] theorem applyTick_lastLength (snap : Snapshot) (s : State) :
    (applyTick snap s).lastLength = (kin snap.cfg snap.raw).1 := by simp [applyTick]
@[simp] theorem applyTick_lastTickFault (snap : Snapshot) (s : State) :
    (applyTick snap s).lastTickFault = (kin snap.cfg snap.raw).2 := by simp [applyTick]
@[simp] theorem applyTick_lastUpdate (snap : Snapshot) (s : State) :
    (applyTick snap s).lastUpdate = snap.now := by simp [applyTick]
@[simp] theorem applyTick_tickCount (snap : Snapshot) (s : State) :
    (applyTick snap s).tickCount = s.tickCount + 1#32 := by simp [applyTick]

/-- What an accepted tick does: with `T_LAT = 1` it is applied at once, else it goes in flight; in both
cases the encoder was sampled and an earlier QUERY_LENGTH is cancelled (R160, R162). -/
theorem acceptTick_cases (now : Time) (s : State) :
    (s.build.extraLatency = 0 ∧ acceptTick now s =
      applyTick (tickSnapshot now s) { markSampled s with queryFlight := s.preemptedQuery }) ∨
    (s.build.extraLatency ≠ 0 ∧ acceptTick now s =
      { markSampled s with
        queryFlight := s.preemptedQuery
        tickFlight := some { commitAt := s.commitCycle, snap := tickSnapshot now s } }) := by
  unfold acceptTick
  by_cases h : s.build.extraLatency = 0 <;> simp [h]

/-- The checks of a tick request, each with the condition that decides it (R102 to R104, R163). -/
theorem tickVerdict_cases (taken : Bool) (now : Time) (s : State) :
    ((s.tickFlight.isSome = true ∨ taken = true) ∧ tickVerdict taken now s = .dropped) ∨
    (s.tickFlight = none ∧ taken = false ∧ s.enabled = false ∧
      tickVerdict taken now s = .disabled) ∨
    (s.tickFlight = none ∧ taken = false ∧ s.enabled = true ∧
      elapsed now s.lastUpdate < s.cfg.minPeriod ∧ tickVerdict taken now s = .tooSoon) ∨
    (s.tickFlight = none ∧ taken = false ∧ s.enabled = true ∧
      ¬ elapsed now s.lastUpdate < s.cfg.minPeriod ∧ tickVerdict taken now s = .accepted) := by
  unfold tickVerdict
  cases hf : s.tickFlight <;> cases taken <;> cases he : s.enabled <;>
    by_cases hp : elapsed now s.lastUpdate < s.cfg.minPeriod <;> simp [hp]

/-- A tick is accepted only with the unit free of ticks, while Enabled, after the minimum period. -/
theorem of_tickVerdict_accepted {taken : Bool} {now : Time} {s : State}
    (h : tickVerdict taken now s = .accepted) :
    s.tickFlight = none ∧ taken = false ∧ s.enabled = true ∧
      ¬ elapsed now s.lastUpdate < s.cfg.minPeriod := by
  rcases tickVerdict_cases taken now s with ⟨_, h1⟩ | ⟨_, _, _, h1⟩ | ⟨_, _, _, _, h1⟩ | ⟨a, b, c, d, _⟩
  · simp [h1] at h
  · simp [h1] at h
  · simp [h1] at h
  · exact ⟨a, b, c, d⟩

/-- What a tick request does: it sets TICK_OVERRUN, or nothing, or is accepted while Enabled with no tick
in flight (R102). -/
theorem performTick_cases (taken : Bool) (now : Time) (s : State) :
    performTick (tickVerdict taken now s) now s = setFlag .tickOverrun s ∨
    performTick (tickVerdict taken now s) now s = s ∨
    (s.tickFlight = none ∧ taken = false ∧ s.enabled = true ∧
      tickVerdict taken now s = .accepted ∧
      performTick (tickVerdict taken now s) now s = acceptTick now s) := by
  cases h : tickVerdict taken now s
  · exact .inl rfl
  · exact .inr (.inl rfl)
  · exact .inr (.inl rfl)
  · have := of_tickVerdict_accepted h
    exact .inr (.inr ⟨this.1, this.2.1, this.2.2.1, rfl, rfl⟩)

/-- The elapsed time is the difference of the timestamps modulo 2^32 (R104). -/
theorem elapsed_toNat (now lastUpdate : Time) :
    ((elapsed now lastUpdate).toNat : Int) = ((now.toNat : Int) - lastUpdate.toNat) % 2 ^ 32 := by
  have := now.isLt
  have := lastUpdate.isLt
  unfold elapsed
  rw [BitVec.toNat_sub]
  omega

/-- The stop pin does nothing or performs the emergency-stop effect (R67). -/
theorem stopPin_cases (s : State) :
    (s.pins.estopReq = true ∧ stopPin s = eStopEffect s) ∨
    (s.pins.estopReq = false ∧ stopPin s = s) := by
  unfold stopPin; cases h : s.pins.estopReq <;> simp

/-- The tick port does nothing or performs its request (R66). -/
theorem tickPort_cases (taken : Bool) (s : State) :
    (s.pins.tickValid = false ∧ tickPort taken s = s) ∨
    (s.pins.tickValid = true ∧ tickPort taken s =
      performTick (tickVerdict taken s.pins.tickNow s) s.pins.tickNow s) := by
  unfold tickPort; cases h : s.pins.tickValid <;> simp

/-- Position 4 for a tick: the tick in flight commits and leaves the unit, or nothing happens (R160). -/
theorem commitTick_cases (s : State) :
    (∃ f, s.tickFlight = some f ∧ f.commitAt = s.cycle ∧
      commitTick s = applyTick f.snap { s with tickFlight := none }) ∨
    ((∀ f, s.tickFlight = some f → f.commitAt ≠ s.cycle) ∧ commitTick s = s) := by
  unfold commitTick
  cases h : s.tickFlight with
  | none => simp
  | some f => by_cases hc : f.commitAt = s.cycle <;> simp [hc]

/-- Position 4 for a QUERY_LENGTH: it answers and leaves the unit, or nothing happens (R161). -/
theorem commitQuery_cases (s : State) :
    (∃ q, s.queryFlight = some q ∧ q.commitAt = s.cycle ∧
      commitQuery s = answerQuery q { s with queryFlight := none }) ∨
    ((∀ q, s.queryFlight = some q → q.commitAt ≠ s.cycle) ∧ commitQuery s = s) := by
  unfold commitQuery
  cases h : s.queryFlight with
  | none => simp
  | some q => by_cases hc : q.commitAt = s.cycle <;> simp [hc]

end Sys2Proof.Machine
end

