-- ==== Sys2Proof/Laws/PerInstr.lean ====
section
/-! SUPPORT. A statement about every command, one lemma per constructor: the word an assembler emits for
it matches its row of spec/opcode_table.json. -/

namespace Sys2Proof.Laws

/-- The bits a row of spec/opcode_table.json fixes: all of OP, and IDX in formats N and D (R63). -/
def rowMask : Instr → CommandWord
  | .nop | .setTarget _ | .estop | .queryLength | .tick _ | .clearFlags _ => 0xFF00000000#40
  | .cfgWrite _ _ | .cfgRead _ | .statRead _ => 0xF000000000#40

/-- The value of those bits (R71). -/
def rowMatch : Instr → CommandWord
  | .nop => 0x0000000000#40
  | .setTarget _ => 0x1000000000#40
  | .estop => 0x2000000000#40
  | .queryLength => 0x3000000000#40
  | .tick _ => 0x4000000000#40
  | .cfgWrite _ _ => 0x5000000000#40
  | .cfgRead _ => 0x6000000000#40
  | .statRead _ => 0x7000000000#40
  | .clearFlags _ => 0x8000000000#40

/-- A word whose DATA is masked away keeps its operation code and index. -/
theorem commandWord_and (op : OpCode) (idx : Idx) (data : Data) (m : BitVec 4) :
    commandWord op idx data &&& commandWord 0xF#4 m 0#32 = commandWord op (idx &&& m) 0#32 := by
  apply BitVec.eq_of_getLsbD_eq
  intro i hi
  simp only [commandWord, BitVec.getLsbD_and, BitVec.getLsbD_append]
  split
  · simp
  · split
    · simp
    · have h : ∀ j, j < 4 → (0xF#4).getLsbD j = true := by decide
      rw [h _ (by omega), Bool.and_true]

/-- The emitted word of a command has its row's bits. -/
def TableRow.Statement (i : Instr) : Prop := encode i &&& rowMask i = rowMatch i

theorem TableRow.nop : TableRow.Statement .nop := by
  unfold TableRow.Statement; decide

theorem TableRow.setTarget (target : Data) : TableRow.Statement (.setTarget target) :=
  (commandWord_and 1#4 0#4 target 0xF#4).trans (by simp only [rowMatch]; decide)

theorem TableRow.estop : TableRow.Statement .estop := by
  unfold TableRow.Statement; decide

theorem TableRow.queryLength : TableRow.Statement .queryLength := by
  unfold TableRow.Statement; decide

theorem TableRow.tick (now : Time) : TableRow.Statement (.tick now) :=
  (commandWord_and 4#4 0#4 now 0xF#4).trans (by simp only [rowMatch]; decide)

theorem TableRow.cfgWrite (idx : Idx) (data : Data) : TableRow.Statement (.cfgWrite idx data) :=
  (commandWord_and 5#4 idx data 0#4).trans (by simp [rowMatch, commandWord])

theorem TableRow.cfgRead (idx : Idx) : TableRow.Statement (.cfgRead idx) :=
  (commandWord_and 6#4 idx 0#32 0#4).trans (by simp [rowMatch, commandWord])

theorem TableRow.statRead (idx : Idx) : TableRow.Statement (.statRead idx) :=
  (commandWord_and 7#4 idx 0#32 0#4).trans (by simp [rowMatch, commandWord])

theorem TableRow.clearFlags (mask : Data) : TableRow.Statement (.clearFlags mask) :=
  (commandWord_and 8#4 0#4 mask 0xF#4).trans (by simp only [rowMatch]; decide)

end Sys2Proof.Laws
end

