-- ==== Sys2Proof/Laws/Ports.lean ====
section
/-! SUPPORT. What R59's "registered state only" can and cannot give beside the levels that R61, R64, R152 and
R155 name (log 7). -/

namespace Sys2Proof.Machine

/-- The registered outputs read no input port (R59). -/
theorem registeredOutputs_ignores_pins (s : State) (p : PortInputs) :
    State.registeredOutputs { s with pins := p } = s.registeredOutputs := rfl

/-- While `rst = 0` the output ports are the registered outputs (R59). -/
theorem outputs_eq_registered (s : State) (h : s.pins.rst = false) : s.outputs = s.registeredOutputs := by
  simp [State.outputs, h]

/-- No output that reads no input port is 0 in every cycle with `rst = 1` and 1 in some cycle with `rst = 0`. -/
theorem registered_not_gated_by_reset (out : State → Bool)
    (registered : ∀ (s : State) (p : PortInputs), out { s with pins := p } = out s)
    (gated : ∀ s : State, s.pins.rst = true → out s = false) (s : State) : out s = false := by
  rw [← registered s { s.pins with rst := true }]
  exact gated _ rfl

/-- R59's `cmd_ready` and R61's with R155's exclude each other: one that reads no input port cannot be 0 while
`rst = 1` and 1 in the first cycle after a reset. -/
theorem no_registered_cmdReady :
    ¬ ∃ out : State → Bool, (∀ (s : State) (p : PortInputs), out { s with pins := p } = out s) ∧
      (∀ s : State, s.pins.rst = true → out s = false) ∧ out State.reset = true := by
  rintro ⟨out, registered, gated, ready⟩
  simp [registered_not_gated_by_reset out registered gated] at ready

/-- R59's `rsp_valid` and R152's with R64's exclude each other: one that reads no input port cannot be 0 while
`rst = 1` and show the response register while `rst = 0`. -/
theorem no_registered_rspValid :
    ¬ ∃ out : State → Bool, (∀ (s : State) (p : PortInputs), out { s with pins := p } = out s) ∧
      (∀ s : State, s.pins.rst = true → out s = false) ∧
      (∀ s : State, s.pins.rst = false → out s = s.rspValid) := by
  rintro ⟨out, registered, gated, shown⟩
  have due := shown { State.reset with rspValid := true } rfl
  simp [registered_not_gated_by_reset out registered gated] at due

end Sys2Proof.Machine
end

