-- ==== Sys2Proof/Laws/Step.lean ====
section
/-! SUPPORT. What a step can do, said once: reset, or the command port and then the other positions
(70_reset_and_hazards.md R152, R158). -/

namespace Sys2Proof.Machine

/-- The command port sees the same ports and unit before and after the registers it loads are cleared. -/
@[simp] theorem beginCycle_cmdReady (s : State) : (beginCycle s).cmdReady = s.cmdReady := rfl

@[simp] theorem beginCycle_accepts (s : State) : (beginCycle s).accepts = s.accepts := rfl

/-- A command is accepted only without a reset and with no QUERY_LENGTH owed its answer (R61). -/
theorem of_accepts {s : State} (h : s.accepts = true) :
    s.pins.rst = false ∧ s.pins.cmdValid = true ∧ s.queryFlight = none := by
  simp [State.accepts, State.cmdReady, State.portFree] at h
  exact ⟨h.2.1, h.1, h.2.2⟩

/-- Every command answers a next state. -/
theorem exec_next (i : Instr) (s : State) : ∃ c, exec i s = .next c := by
  cases i with
  | nop => exact ⟨_, rfl⟩
  | setTarget t => exact ⟨_, rfl⟩
  | estop => exact ⟨_, rfl⟩
  | queryLength => exact ⟨_, rfl⟩
  | tick now => exact ⟨_, rfl⟩
  | cfgWrite idx d =>
    simp only [exec, execCfgWrite]
    split
    · exact ⟨_, rfl⟩
    · split <;> exact ⟨_, rfl⟩
  | cfgRead idx => simp only [exec, execCfgRead]; split <;> exact ⟨_, rfl⟩
  | statRead idx => simp only [exec, execStatRead]; split <;> exact ⟨_, rfl⟩
  | clearFlags m => exact ⟨_, rfl⟩

/-- What the command port does in a cycle: nothing, the ILLEGAL answer, or a command (R61, R75). -/
theorem commandPort_cases (s : State) :
    (s.accepts = false ∧ commandPort s = .next s) ∨
    (∃ why, s.accepts = true ∧ decode s.pins.cmdWord = .illegal why ∧
      commandPort s = .next (answerIllegal s)) ∨
    (∃ i c, s.accepts = true ∧ decode s.pins.cmdWord = .command i ∧ exec i s = .next c ∧
      commandPort s = .next c) := by
  unfold commandPort
  cases ha : s.accepts with
  | false => simp
  | true =>
    cases hd : decode s.pins.cmdWord with
    | illegal why => exact .inr (.inl ⟨why, rfl, rfl, by simp [perform, hd]⟩)
    | command i =>
      obtain ⟨c, hc⟩ := exec_next i s
      exact .inr (.inr ⟨i, c, rfl, rfl, hc, by simp [perform, hd, hc]⟩)

/-- A step with `rst = 1` (R152). -/
theorem step_reset {s : State} (h : s.pins.rst = true) : step s = .next (resetCycle s) := by
  simp [step, h]

/-- A step without a reset: what the command port leaves goes through the other positions (R158). -/
theorem step_cycle {s c : State} (h : s.pins.rst = false)
    (hc : commandPort (beginCycle s) = .next c) :
    step s = .next (closeCycle s (afterCommand (commandTakesTick (beginCycle s)) c)) := by
  simp [step, h, hc]

/-- The command port leaves a state for the other positions. -/
theorem commandPort_next (s : State) : ∃ c, commandPort s = .next c := by
  rcases commandPort_cases s with ⟨_, h⟩ | ⟨_, _, _, h⟩ | ⟨_, c, _, _, _, h⟩ <;> exact ⟨_, h⟩

/-- Everything a step can do (R152, R158). -/
theorem step_cases {s t : State} (h : step s = .next t) :
    (s.pins.rst = true ∧ t = resetCycle s) ∨
    (s.pins.rst = false ∧ ∃ c, commandPort (beginCycle s) = .next c ∧
      t = closeCycle s (afterCommand (commandTakesTick (beginCycle s)) c)) := by
  cases hr : s.pins.rst with
  | true => rw [step_reset hr] at h; cases h; exact .inl ⟨rfl, rfl⟩
  | false =>
    obtain ⟨c, hc⟩ := commandPort_next (beginCycle s)
    rw [step_cycle hr hc] at h
    cases h
    exact .inr ⟨rfl, c, hc, rfl⟩

/-- What a command can do to the state, the response register apart: one case per effect (R95, R98, R100,
R102, R127, R131; every other command only answers). -/
theorem exec_cases {i : Instr} {s c : State} (h : exec i s = .next c) :
    (∃ target, i = .setTarget target ∧
      (c = respond .ok 0#32
          { s with target := BitVec.ofNat 17 (clampedTarget s.cfg target), enabled := true } ∨
       c = respond .ok 0#32
          { setFlag .targetClamped s with
            target := BitVec.ofNat 17 (clampedTarget s.cfg target), enabled := true })) ∨
    (i = .estop ∧ c = respond .ok 0#32 (eStopEffect s)) ∨
    (i = .queryLength ∧ (c = respond .busy 0#32 s ∨ (s.busy = false ∧ c = occupyWithQuery s))) ∨
    (∃ now, i = .tick now ∧
      c = respond (tickVerdict false now s).status (tickVerdict false now s).data
        (performTick (tickVerdict false now s) now s)) ∨
    (∃ idx data r, i = .cfgWrite idx data ∧ cfgRegAt idx = some r ∧ cfgLocked r s = false ∧
      c = respond .ok 0#32 { s with cfg := writeCfg r data s.cfg }) ∨
    (∃ mask, i = .clearFlags mask ∧
      c = respond .ok 0#32 { s with flags := clearedFlags s.flags (flagMask mask) }) ∨
    (∃ status data, (i = .nop ∨ (∃ idx, i = .cfgRead idx) ∨ ∃ idx, i = .statRead idx) ∧
      c = respond status data s) ∨
    (∃ f status, ((∃ idx data, i = .cfgWrite idx data) ∨ (∃ idx, i = .cfgRead idx) ∨
      ∃ idx, i = .statRead idx) ∧ c = answerError f status s) := by
  cases i with
  | nop => cases h; exact .inr (.inr (.inr (.inr (.inr (.inr (.inl ⟨_, _, .inl rfl, rfl⟩))))))
  | setTarget target =>
    cases h
    refine .inl ⟨target, rfl, ?_⟩
    by_cases hc : clampedTarget s.cfg target = target.toNat
    · exact .inl (by simp [hc])
    · exact .inr (by simp [hc])
  | estop => cases h; exact .inr (.inl ⟨rfl, rfl⟩)
  | queryLength =>
    cases h
    refine .inr (.inr (.inl ⟨rfl, ?_⟩))
    cases hb : s.busy <;> simp
  | tick now => cases h; exact .inr (.inr (.inr (.inl ⟨now, rfl, rfl⟩)))
  | cfgWrite idx data =>
    simp only [exec, execCfgWrite] at h
    split at h
    · cases h
      exact .inr (.inr (.inr (.inr (.inr (.inr (.inr ⟨_, _, .inl ⟨_, _, rfl⟩, rfl⟩))))))
    · rename_i r hr
      split at h
      · cases h
        exact .inr (.inr (.inr (.inr (.inr (.inr (.inr ⟨_, _, .inl ⟨_, _, rfl⟩, rfl⟩))))))
      · rename_i hl
        cases h
        exact .inr (.inr (.inr (.inr (.inl ⟨idx, data, r, rfl, hr, by simpa using hl, rfl⟩))))
  | cfgRead idx =>
    simp only [exec, execCfgRead] at h
    split at h <;> cases h
    · exact .inr (.inr (.inr (.inr (.inr (.inr (.inr ⟨_, _, .inr (.inl ⟨_, rfl⟩), rfl⟩))))))
    · exact .inr (.inr (.inr (.inr (.inr (.inr (.inl ⟨_, _, .inr (.inl ⟨_, rfl⟩), rfl⟩))))))
  | statRead idx =>
    simp only [exec, execStatRead] at h
    split at h <;> cases h
    · exact .inr (.inr (.inr (.inr (.inr (.inr (.inr ⟨_, _, .inr (.inr ⟨_, rfl⟩), rfl⟩))))))
    · exact .inr (.inr (.inr (.inr (.inr (.inr (.inl ⟨_, _, .inr (.inr ⟨_, rfl⟩), rfl⟩))))))
  | clearFlags mask =>
    cases h; exact .inr (.inr (.inr (.inr (.inr (.inl ⟨mask, rfl, rfl⟩)))))

end Sys2Proof.Machine
end

