-- ==== Sys2Proof/Tests/Slice0.lean ====
section
/-! SUPPORT. Tests: expected values come from the spec (95_test_vectors.md and the rules named), never from
the model. Then, for every obligation with hypotheses, a witness that meets all of them together. -/

namespace Sys2Proof.Tests

open Sys2Proof.Machine Sys2Proof.Safety Sys2Proof.Config

/-! WellFormed refuses each command that names an unmapped register (R18, R39). -/

theorem test_wellFormed_cfgWrite : (Instr.cfgWrite 11#4 0#32).wellFormed = false := by decide
theorem test_wellFormed_cfgRead : (Instr.cfgRead 15#4).wellFormed = false := by decide
theorem test_wellFormed_statRead : (Instr.statRead 11#4).wellFormed = false := by decide
theorem test_wellFormed_last_mapped : (Instr.statRead 10#4).wellFormed = true := by decide

/-! One word of every command, its bits written out from the patterns of R63 (95_test_vectors.md 2.1). -/

theorem test_decode_nop :
    decode 0b0000000000000000000000000000000000000000#40 = .command .nop := by decide
theorem test_decode_setTarget :
    decode 0b0001000000000000000000000011001100110011#40 = .command (.setTarget 13107#32) := by decide
theorem test_decode_estop :
    decode 0b0010000000000000000000000000000000000000#40 = .command .estop := by decide
theorem test_decode_queryLength :
    decode 0b0011000000000000000000000000000000000000#40 = .command .queryLength := by decide
theorem test_decode_tick :
    decode 0b0100000000000000000000000000000001100100#40 = .command (.tick 100#32) := by decide
theorem test_decode_cfgWrite :
    decode 0b0101011100000000000000010010100000000000#40 = .command (.cfgWrite 7#4 75776#32) := by
  decide
theorem test_decode_cfgRead :
    decode 0b0110011000000000000000000000000000000000#40 = .command (.cfgRead 6#4) := by decide
theorem test_decode_statRead :
    decode 0b0111101000000000000000000000000000000000#40 = .command (.statRead 10#4) := by decide
theorem test_decode_clearFlags :
    decode 0b1000000000000000000000000000000000111111#40 = .command (.clearFlags 0x3F#32) := by decide
theorem test_decode_reserved : decode 0x9000000000#40 = .illegal (.reservedOpcode 9#4) := by decide
theorem test_decode_index : decode 0x0100000000#40 = .illegal (.nonzeroIndex 0#4 1#4) := by decide
theorem test_decodeTableWord : decodeTableWord 40 0x4000000064 = some (.tick 100#32) := by decide

/-! States for the one-step tests. -/

/-- The default block right after reset, with the encoder at `raw`. -/
def calm (raw : AngleCode) : State := State.resetWith Params.default 0 (PortInputs.idle raw) []

/-- Enabled with the given target. -/
def aimed (target : Length) (raw : AngleCode) : State :=
  { calm raw with enabled := true, target := target }

/-- The same block with `T_LAT = 2`. -/
def slow (s : State) : State := { s with build := { s.build with extraLatency := 1 } }

/-- A command word on the command port. -/
def withWord (s : State) (w : CommandWord) : State :=
  { s with pins := { s.pins with cmdValid := true, cmdWord := w } }

/-- A request on the tick port. -/
def withTick (s : State) (now : Time) : State :=
  { s with pins := { s.pins with tickValid := true, tickNow := now } }

/-- The emergency-stop pin at 1. -/
def withStop (s : State) : State := { s with pins := { s.pins with estopReq := true } }

/-- The tick that `aimed 13107 174` takes at time 100. -/
def someTick : TickFlight where
  commitAt := 0
  snap := { raw := 174#10, now := 100#32, target := 13107#17, cfg := CfgRegs.reset Params.default }

/-- A QUERY_LENGTH in flight. -/
def someQuery : QueryFlight where
  commitAt := 0
  cancelled := false
  raw := 256#10
  cfg := CfgRegs.reset Params.default

/-- What a reader sees in the state an outcome leaves. -/
def seen {α : Type} (f : State → α) : Host.Outcome State Fault Refusal → Option α
  | .next s => some (f s)
  | .fault _ => none
  | .refused _ => none

/-- The response register. -/
def response (s : State) : Bool × BitVec 2 × Data := (s.rspValid, s.rspStatus, s.rspData)

/-- The duty and the channels. -/
def drive (s : State) : Int × Nat × Nat := (s.duty.toInt, s.pwmA.toNat, s.pwmB.toNat)

/-! One step of each command (95_test_vectors.md P1 to P4). -/

theorem test_nop : seen response (step (withWord (calm 0#10) 0x00FFFFFFFF#40)) =
    some (true, 0#2, 0#32) := by decide
theorem test_setTarget :
    seen (fun s => (s.target, s.enabled, s.flags)) (step (withWord (calm 0#10) 0x1000004E20#40)) =
      some (16679#17, true, 0b000010#6) := by decide
theorem test_estop :
    seen (fun s => (s.enabled, drive s)) (step (withWord
      { aimed 13107#17 0#10 with duty := 378#16, pwmA := 378#15 } 0x2000000000#40)) =
      some (false, 0, 0, 0) := by decide
theorem test_queryLength :
    seen response (step (withWord (aimed 13107#17 256#10) 0x3000000000#40)) =
      some (true, 0#2, 0x00003519#32) := by decide +kernel
theorem test_queryLength_fault :
    seen response (step (withWord { calm 50#10 with
      cfg := { (calm 0#10).cfg with offset := 100#10 } } 0x3000000000#40)) =
      some (true, 0#2, 0x80002604#32) := by decide +kernel
theorem test_tick_extend :
    seen (fun s => (s.lastLength, drive s, s.tickCount)) (step (withWord (aimed 13107#17 174#10)
      0x4000000064#40)) = some (11799#17, (378, 378, 0), 1#32) := by decide +kernel
theorem test_tick_retract_clampStyle :
    seen (fun s => (s.lastLength, drive s)) (step (withWord
      { aimed 10000#17 128#10 with cfg := { (calm 0#10).cfg with ctrlCfg := 1#2 } }
      0x4000000000#40)) = some (10861#17, (-249, 0, 249)) := by decide +kernel
theorem test_cfgWrite :
    seen (fun s => (s.cfg.lmax, response s)) (step (withWord (calm 0#10) 0x5600024123#40)) =
      some (16675#17, true, 0#2, 0#32) := by decide
theorem test_cfgWrite_locked :
    seen (fun s => (s.cfg.kp, s.flags, response s)) (step (withWord (aimed 13107#17 0#10)
      0x5700001000#40)) = some (75776#24, 0b010000#6, true, 2#2, 0#32) := by decide
theorem test_cfgRead : seen response (step (withWord (calm 0#10) 0x6100000000#40)) =
    some (true, 0#2, 0x3333#32) := by decide
theorem test_cfgRead_unmapped :
    seen (fun s => (s.flags, response s)) (step (withWord (calm 0#10) 0x6B00000000#40)) =
      some (0b001000#6, true, 1#2, 0#32) := by decide
theorem test_statRead_duty :
    seen response (step (withWord { calm 0#10 with duty := 0xFF07#16 } 0x7300000000#40)) =
      some (true, 0#2, 0xFFFFFF07#32) := by decide
theorem test_statRead_status :
    seen response (step (withWord { aimed 16679#17 0#10 with
      flags := 0b010010#6, lastTickFault := true, cfg := { (calm 0#10).cfg with irqMask := 0x10#6 } }
      0x7000000000#40)) = some (true, 0#2, 0xD#32) := by decide
theorem test_clearFlags :
    seen (fun s => s.flags) (step (withWord { calm 0#10 with flags := 0b000011#6 } 0x8000000001#40)) =
      some 0b000010#6 := by decide
theorem test_clearFlags_high_bits_ignored :
    seen (fun s => s.flags) (step (withWord { calm 0#10 with flags := 0b111111#6 } 0x80FFFFFFC0#40)) =
      some 0b111111#6 := by decide
theorem test_illegal :
    seen (fun s => (s.flags, response s)) (step (withWord (calm 0#10) 0x9000000000#40)) =
      some (0b001000#6, true, 1#2, 0#32) := by decide

/-- The host's way in: the word presented after reset is performed by the next step. -/
theorem test_withFetchWord :
    seen response (step (State.reset.withFetchWord 40 0x7A00000000)) =
      some (true, 0#2, 0x42414D01#32) := by decide

/-! The other operations of a cycle (P4 step 7, P5 with `T_LAT = 2`). -/

theorem test_pin_before_tick :
    seen (fun s => (s.enabled, drive s, s.tickCount))
      (step (withTick (withStop { aimed 10000#17 256#10 with duty := 0xFC01#16, pwmB := 1023#15 }) 3#32)) =
      some (false, (0, 0, 0), 0#32) := by decide
theorem test_commit :
    seen (fun s => (s.lastLength, drive s, s.lastUpdate, s.tickFlight))
      (step { slow (aimed 13107#17 0#10) with tickFlight := some someTick }) =
      some (11799#17, (378, 378, 0), 100#32, none) := by decide +kernel
theorem test_preempted_query_answers_busy :
    seen response (step { slow (withTick (aimed 13107#17 200#10) 13#32) with
      queryFlight := some someQuery }) = some (true, 3#2, 0#32) := by decide
theorem test_second_tick_dropped :
    seen (fun s => (s.flags, s.tickCount)) (step (withTick { slow (aimed 13107#17 0#10) with
      tickFlight := some someTick } 11#32)) = some (0b000100#6, 1#32) := by decide +kernel

/-! The converter and the law (R92, R93, R115). -/

theorem test_rom : (romCos 0, romCos 128, romCos 256) = (32768, 23170, 0) := by decide
theorem test_kin_ends :
    ((kin (CfgRegs.reset Params.default) 0#10).1, (kin (CfgRegs.reset Params.default) 512#10).1) =
      (9503#17, 16711#17) := by decide +kernel
theorem test_law_half_count : (pLaw 4096#24 1024#15 32, pLaw 4096#24 1024#15 (-32)) = (1, -1) := by
  decide

/-! The notation (R77 to R81). -/

theorem test_assemble_names : Asm.assembleLine "cfg_write KP, 75776 ; gain".toList =
    .ok (some (.command (.cfgWrite 7#4 75776#32))) := by decide +kernel
theorem test_assemble_pseudo : Asm.assembleLine "SET_GAIN 18.5".toList =
    .ok (some (.command (.cfgWrite 7#4 75776#32))) := by decide +kernel
theorem test_assemble_set_len :
    Asm.assembleLine "SET_LEN LMAX, 0.2545".toList = .ok (some (.command (.cfgWrite 6#4 16679#32))) ∧
    Asm.assembleLine "SET_LEN 6, 0.2545".toList = .ok (some (.command (.cfgWrite 6#4 16679#32))) ∧
    Asm.assembleLine "SET_LEN KP, 1".toList = .error .badOperands := by decide +kernel
theorem test_assemble_word : encode (.cfgWrite 7#4 75776#32) = 0x5700012800#40 := by decide
theorem test_assemble_cycles :
    Asm.cyclesOf [.tickPort 2#32, .nextCycle, .stopPin, .tickPort 3#32] =
      [[.tickPort 2#32], [.stopPin, .tickPort 3#32]] := by decide
/-- Commands without `@CYCLE` lines take a cycle each (95_test_vectors.md section 3). -/
theorem test_assemble_one_command_a_cycle :
    Asm.cyclesOf [.command .nop, .command .estop, .tickPort 2#32] =
      [[.command .nop], [.command .estop], [.tickPort 2#32]] := by decide

/-- The stream of P4, rows 6 to 9: the `@CYCLE` groups row 7, and rows 8 and 9 are cycles of their own. -/
theorem test_assemble_empty_cycles :
    Asm.cyclesOf [.nextCycle, .command .nop, .nextCycle, .nextCycle, .command .estop, .nextCycle] =
      [[.command .nop], [], [.command .estop], []] := by decide
theorem test_assemble_group_ends :
    Asm.cyclesOf [.tickPort 2#32, .nextCycle, .stopPin, .tickPort 3#32, .command (.setTarget 5000#32),
        .tickPort 4#32] =
      [[.tickPort 2#32], [.stopPin, .tickPort 3#32], [.command (.setTarget 5000#32)],
        [.tickPort 4#32]] := by decide

/-! Witnesses: for each obligation with hypotheses, a concrete state and operands that meet all of them; one
theorem for each clause, at a boundary value where the clause has a range. -/

theorem witness_EncodeOfDecodeKeepsUsedFields :
    decode 0x5FFFFFFFFF#40 = .command (.cfgWrite 15#4 0xFFFFFFFF#32) := by decide
theorem witness_DecodeIsTotalAndIllegalExactly :
    decode 0x8000000001#40 = .command (.clearFlags 1#32) ∧
    decode 0x5B00000000#40 = .command (.cfgWrite 11#4 0#32) ∧
    (Instr.cfgWrite 11#4 0#32).wellFormed = false ∧
    decode 0x9000000000#40 = .illegal (.reservedOpcode 9#4) := by decide
theorem witness_UnusedDataIsIgnored :
    ((0#4).toNat ∈ [0, 2, 3, 6, 7] ∧ (7#4).toNat ∈ [0, 2, 3, 6, 7]) ∧
    (0x24123#32).toNat % 2 ^ 17 = (0x04123#32).toNat % 2 ^ 17 ∧
    (0x40#32).toNat % 2 ^ 6 = (0#32).toNat % 2 ^ 6 := by decide
theorem witness_StepRunsTheDecodedCommand :
    (withWord (calm 0#10) 0x0000000000#40).accepts = true ∧
    decode (withWord (calm 0#10) 0x0000000000#40).pins.cmdWord = .command .nop ∧
    exec .nop (beginCycle (withWord (calm 0#10) 0x0000000000#40)) =
      .next (respond .ok 0#32 (beginCycle (withWord (calm 0#10) 0x0000000000#40))) :=
  ⟨by decide, by decide, rfl⟩
theorem witness_IllegalWordOnlyFlagsAndAnswers_words :
    9 ≤ (opField 0x9000000000#40).toNat ∧
    ((opField 0x8100000000#40).toNat ∈ [0, 1, 2, 3, 4, 8] ∧ idxField 0x8100000000#40 ≠ 0#4) ∧
    ((opField 0x7B00000000#40).toNat ∈ [5, 6, 7] ∧ 11 ≤ (idxField 0x7B00000000#40).toNat) := by decide
theorem witness_IllegalWordOnlyFlagsAndAnswers_step :
    let s := withWord (calm 0#10) 0x9000000000#40
    s.pins.rst = false ∧ s.pins.cmdValid = true ∧ s.pins.cmdWord = 0x9000000000#40 ∧
    s.pins.estopReq = false ∧ s.pins.tickValid = false ∧
    s.tickFlight = none ∧ s.queryFlight = none := by decide
theorem witness_ResetPinRestoresEverything :
    ({ aimed 1#17 0#10 with pins := { PortInputs.idle 0#10 with rst := true } }).pins.rst = true := rfl
theorem witness_CfgWriteKeepsTheLowBits_disabled : (calm 0#10).enabled = false := by decide
theorem witness_CfgWriteKeepsTheLowBits_mask :
    (10#4 = 10#4) ∧ (aimed 1#17 0#10).enabled = true := by decide
theorem witness_CfgWriteWhileEnabledIsRejected :
    (0#4).toNat ≤ 9 ∧ (9#4).toNat ≤ 9 ∧ (aimed 1#17 0#10).enabled = true := by decide
theorem witness_UnmappedIndexIsIllegal : 11 ≤ (11#4).toNat ∧ 11 ≤ (15#4).toNat := by decide
theorem witness_CfgReadReturnsTheRegister : let s := calm 0#10
    (0#4, s.cfg.ctrlCfg.toNat) ∈ [(0#4, s.cfg.ctrlCfg.toNat), (10#4, s.cfg.irqMask.toNat)] ∧
    (10#4, s.cfg.irqMask.toNat) ∈ [(0#4, s.cfg.ctrlCfg.toNat), (10#4, s.cfg.irqMask.toNat)] := by decide
theorem witness_StatReadReturnsTheRegister :
    11 ≤ (11#4).toNat ∧ 11 ≤ (15#4).toNat ∧
    (10#4, (0x42414D01 : Int)) ∈ [(3#4, (calm 0#10).duty.toInt), (10#4, 0x42414D01)] := by decide
theorem witness_StatusWordHasItsFourBits : 4 ≤ 4 ∧ 4 ≤ 31 := by decide
theorem witness_ClearFlagsClearsTheMaskedFlags : 0 < 6 ∧ 5 < 6 := by decide
theorem witness_HousekeepingTouchesOnlyRegistersAndFlags :
    (match Instr.cfgWrite 9#4 1#32 with
      | .nop | .cfgWrite _ _ | .cfgRead _ | .statRead _ | .clearFlags _ => True
      | .setTarget _ | .estop | .queryLength | .tick _ => False) := trivial
theorem witness_FlagsAreStickyAndSetWins_kept :
    let s := withWord { calm 0#10 with flags := 0b100001#6 } 0x800000001E#40
    s.pins.rst = false ∧ s.flags.getLsbD 0 = true ∧ s.flags.getLsbD 5 = true ∧
    (∀ m, s.accepts = true → decode s.pins.cmdWord = .command (.clearFlags m) →
      m.getLsbD 0 = false ∧ m.getLsbD 5 = false) := by
  refine ⟨by decide, by decide, by decide, fun m _ h => ?_⟩
  have h2 : Decoded.command (.clearFlags 0x1E#32) = .command (.clearFlags m) :=
    (show decode 0x800000001E#40 = _ by decide).symm.trans h
  cases h2
  decide
theorem witness_FlagsAreStickyAndSetWins_wins :
    let s := withTick (withWord { slow (aimed 1#17 0#10) with tickFlight := some someTick }
      0x800000003F#40) 1#32
    s.accepts = true ∧ decode s.pins.cmdWord = .command (.clearFlags 0x3F#32) := by decide

/-- In that cycle the dropped tick-port request sets TICK_OVERRUN after the clear (R140). -/
theorem test_set_wins_over_clear :
    seen (fun s => s.flags.getLsbD 2)
      (step (withTick (withWord { slow (aimed 1#17 0#10) with tickFlight := some someTick }
        0x800000003F#40) 1#32)) = some true := by decide +kernel
theorem witness_WrapIsIdempotentIntoRange :
    ((0 : Int) ≤ 0 ∧ (0 : Int) ≤ 1023 ∧ (0 : Int) ≤ 512) ∧
    ((0 : Int) ≤ 512 ∧ (512 : Int) ≤ 1023 ∧ (512 : Int) ≤ 512) ∧
    ((0 : Int) ≤ 513 ∧ (513 : Int) ≤ 1023 ∧ (513 : Int) ≤ 513) ∧
    ((0 : Int) ≤ 1023 ∧ (1023 : Int) ≤ 1023 ∧ (513 : Int) ≤ 1023) := by decide
theorem witness_KinFaultsOffTheMonotonicBranch :
    (0#2).getLsbD 0 = false ∧ (1#2).getLsbD 0 = true ∧ (2#2).getLsbD 0 = false := by decide
theorem witness_CosineExtendsTheQuarterWave : 0 ≤ 256 ∧ 256 ≤ 256 ∧ 512 ≤ 512 ∧ 1023 ≤ 1023 := by
  decide
theorem witness_RomIsTheRoundedCosine : 0 ≤ 256 ∧ 256 ≤ 256 := by decide
theorem witness_LengthIsWithinTheTriangle : (0 : Int) = 0 ∧ (512 : Int) = 512 := by decide
theorem witness_LengthGrowsAlongTheBranch :
    ((0 : Int) ≤ 0 ∧ (0 : Int) ≤ 512 ∧ (512 : Int) ≤ 512) ∧
    ((0 : Int) ≤ 512 ∧ (512 : Int) ≤ 512) := by decide
theorem witness_QueryLengthAnswersOrOccupies :
    ({ slow (calm 0#10) with tickFlight := some someTick }).busy = true ∧
    ((calm 0#10).busy = false ∧ (calm 0#10).build.tLat = 1) ∧
    ((slow (calm 0#10)).busy = false ∧ 1 < (slow (calm 0#10)).build.tLat) := by decide
theorem witness_TargetClampStaysWithinLimits :
    (calm 0#10).cfg.lmin.toNat ≤ (calm 0#10).cfg.lmax.toNat ∧
    ({ (calm 0#10).cfg with lmax := 0#17 }).lmax.toNat <
      ({ (calm 0#10).cfg with lmax := 0#17 }).lmin.toNat := by decide
theorem witness_TickNotAppliedWritesNothing_dropped :
    ({ aimed 1#17 0#10 with tickFlight := some someTick }).tickFlight.isSome = true := by decide
theorem witness_TickNotAppliedWritesNothing_disabled :
    (calm 0#10).tickFlight = none ∧ (calm 0#10).enabled = false := by decide
theorem witness_TickNotAppliedWritesNothing_tooSoon :
    let s := { aimed 1#17 0#10 with
      lastUpdate := 100#32, cfg := { (calm 0#10).cfg with minPeriod := 10#32 } }
    s.tickFlight = none ∧ s.enabled = true ∧
    (((109#32).toNat : Int) - s.lastUpdate.toNat) % 2 ^ 32 < s.cfg.minPeriod.toNat := by decide
theorem witness_AppliedTickDrivesTheDuty :
    let s := { aimed 13107#17 174#10 with
      lastUpdate := 100#32, cfg := { (calm 0#10).cfg with minPeriod := 10#32 } }
    s.build.tLat = 1 ∧ s.tickFlight = none ∧ s.queryFlight = none ∧ s.enabled = true ∧
    (s.cfg.minPeriod.toNat : Int) ≤ (((110#32).toNat : Int) - s.lastUpdate.toNat) % 2 ^ 32 := by decide
theorem witness_AcceptedTickGoesInFlight :
    let s := slow (aimed 13107#17 174#10)
    1 < s.build.tLat ∧ s.tickFlight = none ∧ s.queryFlight = none ∧ s.enabled = true ∧
    (s.cfg.minPeriod.toNat : Int) ≤ (((0#32).toNat : Int) - s.lastUpdate.toNat) % 2 ^ 32 := by decide
theorem witness_RoundingIsHalfAwayFromZero :
    (0 : Int) ≤ 2 ^ 27 ∧ -(2 ^ 27) < (0 : Int) ∧ (0 : Int) ≤ 0 ∧ (-1 : Int) < 0 := by decide
theorem witness_LawStaysWithinFullScale :
    (-(2 ^ 17) < (-131071 : Int) ∧ (-131071 : Int) < 2 ^ 17) ∧
    (-(2 ^ 17) < (131071 : Int) ∧ (131071 : Int) < 2 ^ 17) ∧ (0#15 = 0#15) := by decide
theorem witness_LawIsOddAndRoundsHalfUpToOne :
    ((4096#24).toNat : Int) * (1024#15).toNat * 32 = 2 ^ 27 ∧
    ((4096#24).toNat : Int) * (1024#15).toNat * (-32) = -(2 ^ 27) := by decide
theorem witness_TickPortIsTheCommandWithoutResponse :
    (withTick (aimed 13107#17 174#10) 10#32).pins.tickValid = true := rfl
theorem witness_TickPortIsTheCommandWithoutResponse_one_cycle :
    let s := withTick (withWord (aimed 13107#17 174#10) 0x4000000064#40) 10#32
    s.accepts = true ∧ decode s.pins.cmdWord = .command (.tick 100#32) ∧
    TickPasses s s.enabled 100#32 ∧ s.pins.tickValid = true ∧ s.pins.estopReq = false ∧
    s.build.tLat = 1 := by
  unfold TickPasses; decide
theorem witness_TickPortIsTheCommandWithoutResponse_slow :
    let s := slow (withTick (withWord (aimed 13107#17 174#10) 0x4000000064#40) 10#32)
    s.accepts = true ∧ decode s.pins.cmdWord = .command (.tick 100#32) ∧
    TickPasses s s.enabled 100#32 ∧ s.pins.tickValid = true ∧ s.pins.estopReq = false ∧
    1 < s.build.tLat := by
  unfold TickPasses; decide
theorem witness_TickPortIsTheCommandWithoutResponse_stop :
    let s := withStop (withTick (withWord (aimed 13107#17 174#10) 0x4000000064#40) 10#32)
    s.accepts = true ∧ decode s.pins.cmdWord = .command (.tick 100#32) ∧
    TickPasses s s.enabled 100#32 ∧ s.pins.tickValid = true ∧ s.pins.estopReq = true := by
  unfold TickPasses; decide
theorem witness_SetDutyMapsTheSignToAChannel :
    (0 : Int) < min (max 1 (-((1023#15).toNat : Int))) ((1023#15).toNat : Int) ∧
    min (max 0 (-((1023#15).toNat : Int))) ((1023#15).toNat : Int) ≤ (0 : Int) := by decide
theorem witness_FlightCommitsInItsCycle :
    let s := { slow (aimed 13107#17 0#10) with tickFlight := some someTick }
    s.pins.rst = false ∧ ¬ StopsInCycle s ∧ PortsIdle s ∧ s.tickFlight = some someTick ∧
    someTick.commitAt = s.cycle := by
  unfold StopsInCycle PortsIdle; decide
theorem witness_FlightCommitsInItsCycle_setTarget :
    let s := withWord { slow (aimed 13107#17 0#10) with tickFlight := some someTick } 0x1000002710#40
    s.pins.rst = false ∧ ¬ StopsInCycle s ∧ s.tickFlight = some someTick ∧
    someTick.commitAt = s.cycle ∧ s.accepts = true ∧
    decode s.pins.cmdWord = .command (.setTarget 10000#32) := by
  unfold StopsInCycle; decide
theorem witness_FlightCommitsInItsCycle_statRead :
    let s := withWord { slow (aimed 13107#17 0#10) with tickFlight := some someTick } 0x7A00000000#40
    s.pins.rst = false ∧ ¬ StopsInCycle s ∧ s.tickFlight = some someTick ∧
    someTick.commitAt = s.cycle ∧ s.accepts = true ∧
    decode s.pins.cmdWord = .command (.statRead 10#4) ∧ statRegAt 10#4 = some .id := by
  unfold StopsInCycle; decide
theorem witness_FlightCommitsInItsCycle_faults :
    (kin someTick.snap.cfg 174#10).2 = false ∧ (kin someTick.snap.cfg 513#10).2 = true ∧
    someTick.snap.cfg.ctrlCfg.getLsbD 1 = false ∧
    ({ someTick.snap.cfg with ctrlCfg := 2#2 }).ctrlCfg.getLsbD 1 = true := by decide +kernel
theorem witness_SetTargetLeavesTheFlightAlone_before :
    let s := { withWord (slow (aimed 13107#17 0#10)) 0x1000002710#40 with
      tickFlight := some { someTick with commitAt := 1 } }
    s.accepts = true ∧ decode s.pins.cmdWord = .command (.setTarget 10000#32) ∧
    s.pins.estopReq = false ∧ s.tickFlight = some { someTick with commitAt := 1 } ∧
    ({ someTick with commitAt := 1 }).commitAt ≠ s.cycle := by decide
theorem witness_SetTargetLeavesTheFlightAlone_commit :
    let s := { withWord (slow (aimed 13107#17 0#10)) 0x1000002710#40 with tickFlight := some someTick }
    s.accepts = true ∧ decode s.pins.cmdWord = .command (.setTarget 10000#32) ∧
    s.pins.estopReq = false ∧ s.tickFlight = some someTick ∧ someTick.commitAt = s.cycle := by decide
theorem witness_TickPreemptsTheQuery_last_cycle :
    let s := { slow (withTick (aimed 13107#17 200#10) 13#32) with queryFlight := some someQuery }
    s.pins.rst = false ∧ s.pins.estopReq = false ∧ s.pins.tickValid = true ∧
    s.queryFlight = some someQuery ∧ 1 < s.build.tLat ∧
    s.cycle ≤ someQuery.commitAt ∧ someQuery.commitAt < s.cycle + s.build.tLat - 1 ∧
    TickPasses s s.enabled s.pins.tickNow ∧ someQuery.commitAt = s.cycle := by
  unfold TickPasses; decide
theorem witness_TickPreemptsTheQuery_earlier :
    let q := { someQuery with commitAt := 1 }
    let s := { withTick (aimed 13107#17 200#10) 13#32 with
      build := { Params.default with extraLatency := 2 }, queryFlight := some q }
    s.pins.rst = false ∧ s.pins.estopReq = false ∧ s.pins.tickValid = true ∧
    s.queryFlight = some q ∧ 1 < s.build.tLat ∧
    s.cycle ≤ q.commitAt ∧ q.commitAt < s.cycle + s.build.tLat - 1 ∧
    TickPasses s s.enabled s.pins.tickNow ∧ q.commitAt ≠ s.cycle := by
  unfold TickPasses; decide
theorem witness_TickPreemptsTheQuery_cancelled :
    let q := { someQuery with cancelled := true }
    let s := { slow (calm 0#10) with queryFlight := some q }
    s.pins.rst = false ∧ s.queryFlight = some q ∧ q.cancelled = true ∧ q.commitAt = s.cycle := by decide
theorem witness_TickPreemptsTheQuery_cancelled_waits :
    let q := { someQuery with cancelled := true, commitAt := 1 }
    let s := { slow (calm 0#10) with queryFlight := some q }
    s.pins.rst = false ∧ s.queryFlight = some q ∧ q.cancelled = true ∧ q.commitAt ≠ s.cycle := by decide
theorem witness_TickPreemptsTheQuery_kept :
    let s := { slow (withTick (calm 0#10) 13#32) with queryFlight := some someQuery }
    s.pins.rst = false ∧ s.queryFlight = some someQuery ∧ someQuery.cancelled = false ∧
    ¬ TickPasses s s.enabled s.pins.tickNow ∧ someQuery.commitAt = s.cycle := by
  unfold TickPasses; decide
theorem witness_TickPreemptsTheQuery_kept_waits :
    let q := { someQuery with commitAt := 1 }
    let s := { slow (calm 0#10) with queryFlight := some q }
    s.pins.rst = false ∧ s.queryFlight = some q ∧ q.cancelled = false ∧ s.pins.tickValid = false ∧
    q.commitAt ≠ s.cycle := by decide

/-- A cancelled QUERY_LENGTH answers BUSY, an undisturbed one its result (R161, R162). -/
theorem test_query_answers :
    seen response (step { slow (calm 0#10) with
      queryFlight := some { someQuery with cancelled := true } }) = some (true, 3#2, 0#32) ∧
    seen response (step { slow (calm 0#10) with queryFlight := some someQuery }) =
      some (true, 0#2, 0x00003519#32) := by decide +kernel
theorem witness_QueryAndTickShareTheSample :
    let s := withTick (withWord (aimed 13107#17 174#10) 0x3000000000#40) 10#32
    s.accepts = true ∧ decode s.pins.cmdWord = .command .queryLength ∧ s.pins.estopReq = false ∧
    s.pins.tickValid = true ∧ TickPasses s s.enabled s.pins.tickNow ∧ s.build.tLat = 1 := by
  unfold TickPasses; decide
theorem witness_QueryAndTickShareTheSample_slow :
    let s := slow (withTick (withWord (aimed 13107#17 174#10) 0x3000000000#40) 10#32)
    s.accepts = true ∧ decode s.pins.cmdWord = .command .queryLength ∧ s.pins.estopReq = false ∧
    s.pins.tickValid = true ∧ TickPasses s s.enabled s.pins.tickNow ∧ 1 < s.build.tLat := by
  unfold TickPasses; decide
theorem witness_QueryAndTickShareTheSample_commit :
    let q := { someQuery with raw := 174#10 }
    let s := { slow (aimed 13107#17 0#10) with tickFlight := some someTick, queryFlight := some q }
    s.pins.rst = false ∧ s.pins.estopReq = false ∧ s.tickFlight = some someTick ∧
    s.queryFlight = some q ∧ q.cancelled = false ∧ someTick.commitAt = s.cycle ∧
    q.commitAt = s.cycle ∧ q.raw = someTick.snap.raw ∧ q.cfg = someTick.snap.cfg := by decide
theorem witness_EveryStopCycleEndsOff_pin :
    let s := withStop { slow (aimed 13107#17 0#10) with tickFlight := some someTick }
    s.pins.rst = false ∧ StopsInCycle s ∧ s.tickFlight.isSome = true := by
  unfold StopsInCycle; decide
theorem witness_EveryStopCycleEndsOff_tick_slow :
    let s := slow (withStop (withWord (aimed 13107#17 174#10) 0x4000000064#40))
    s.pins.rst = false ∧ StopsInCycle s ∧ s.accepts = true ∧
    decode s.pins.cmdWord = .command (.tick 100#32) ∧ TickPasses s s.enabled 100#32 ∧
    1 < s.build.tLat := by
  unfold StopsInCycle TickPasses; decide
theorem witness_EveryStopCycleEndsOff_tick_one :
    let s := withStop (withWord (aimed 13107#17 174#10) 0x4000000064#40)
    s.pins.rst = false ∧ StopsInCycle s ∧ s.accepts = true ∧
    decode s.pins.cmdWord = .command (.tick 100#32) ∧ TickPasses s s.enabled 100#32 ∧
    s.build.tLat = 1 := by
  unfold StopsInCycle TickPasses; decide
theorem witness_EveryStopCycleEndsOff_command :
    let s := withWord { slow (aimed 13107#17 0#10) with tickFlight := some someTick } 0x2000000000#40
    s.pins.rst = false ∧ StopsInCycle s ∧ s.tickFlight.isSome = true := by
  unfold StopsInCycle; decide
theorem witness_AtMostOneTickIsAppliedPerCycle : (calm 0#10).pins.rst = false := rfl
theorem witness_ConfigurationIsLockedWhileEnabled :
    (aimed 1#17 0#10).pins.rst = false ∧ (aimed 1#17 0#10).enabled = true := by decide
theorem witness_OnlySetTargetEnables :
    (calm 0#10).enabled = false ∧
    ∃ t, step (withWord (calm 0#10) 0x1000003333#40) = .next t ∧ t.enabled = true :=
  ⟨by decide, _, rfl, by decide⟩
theorem witness_EveryAcceptedCommandIsAnswered_accepted :
    (withWord (calm 0#10) 0x3000000000#40).pins.rst = false ∧
    (withWord (calm 0#10) 0x3000000000#40).accepts = true := by decide
theorem witness_EveryAcceptedCommandIsAnswered_none :
    (calm 0#10).pins.rst = false ∧ (calm 0#10).accepts = false ∧ (calm 0#10).queryFlight = none := by
  decide

/-- A state in flight that has every invariant. -/
def flying : State :=
  { slow (aimed 13107#17 0#10) with tickFlight := some someTick, duty := 1023#16, pwmA := 1023#15 }

theorem flying_steps : ∃ t, step flying = .next t := ⟨_, rfl⟩
theorem witness_EveryStepKeepsTheOutputsSafe : OutputsSafe flying ∧ FlightEnabled flying := by
  unfold OutputsSafe FlightEnabled ChannelsOff; decide
theorem witness_EveryStepKeepsDutyAndTargetInScale :
    SnapshotCurrent flying ∧ DutyWithinScale flying ∧ TargetWithinLimits flying := by
  refine ⟨?_, by unfold DutyWithinScale; decide, by unfold TargetWithinLimits; decide⟩
  intro t h
  cases h
  unfold AgreeButMask
  decide
theorem witness_EveryStepKeepsFlightsTimely : FlightsTimely flying := by
  refine ⟨?_, ?_, ?_⟩
  · intro t h; cases h; decide
  · intro q h; cases h
  · intro t q _ h; cases h
theorem witness_QueryIsAnsweredAfterItsLatency :
    let s := withWord (slow (calm 256#10)) 0x3000000000#40
    s.accepts = true ∧ decode s.pins.cmdWord = .command .queryLength ∧ s.tickFlight = none ∧
    (∀ p ∈ s.stimulus, p.rst = false) ∧ 1 ≤ 1 ∧ 1 < s.build.tLat := by decide
theorem witness_LatencyDoesNotChangeTheResult :
    let s := withTick (slow (aimed 13107#17 174#10)) 10#32
    s.pins.rst = false ∧ s.pins.cmdValid = false ∧ s.pins.estopReq = false ∧ s.pins.tickValid = true ∧
    s.stimulus = [] ∧ s.tickFlight = none ∧ s.queryFlight = none := by decide
theorem witness_PseudoInstructionsExpand :
    ((⟨-1, 1⟩ : Asm.Decimal).mantissa < 0) ∧
    ((0 : Int) ≤ (⟨65536, 0⟩ : Asm.Decimal).mantissa ∧
      2 ^ 32 ≤ Asm.roundHalfUp ⟨65536, 0⟩ 65536) ∧
    ((0 : Int) ≤ (⟨2, 1⟩ : Asm.Decimal).mantissa ∧ Asm.roundHalfUp ⟨2, 1⟩ 65536 < 2 ^ 32) ∧
    Asm.scaledOperand ⟨2, 1⟩ 65536 = .ok 13107#32 ∧
    Asm.scaledOperand ⟨185, 1⟩ 4096 = .ok 75776#32 := by decide
theorem witness_OutputPortsShowTheRegisters :
    (calm 0#10).pins.rst = false ∧ ({ PortInputs.idle 0#10 with rst := true }).rst = true ∧
    (PortInputs.idle 5#10).rst = (calm 0#10).pins.rst := by decide

end Sys2Proof.Tests
end

/-! The outputs are safe at reset and over every step (10_state.md R41). The invariant of R41 and the fact
it rests on are carried together through the positions of a cycle (70_reset_and_hazards.md R158), one lemma
per operation. -/

namespace Sys2Proof.Machine

open Sys2Proof.Safety

/-- The invariant that a step keeps: R41, and that a tick in flight means Enabled, by which its commit may
drive the duty. -/
def SafeOutputs (s : State) : Prop := OutputsSafe s ∧ FlightEnabled s

/-- The invariant reads five registers: what leaves them alone keeps it. -/
theorem SafeOutputs.congr {s t : State} (hs : SafeOutputs s)
    (henabled : t.enabled = s.enabled := by simp) (hduty : t.duty = s.duty := by simp)
    (hpwmA : t.pwmA = s.pwmA := by simp) (hpwmB : t.pwmB = s.pwmB := by simp)
    (hflight : t.tickFlight = s.tickFlight := by simp) : SafeOutputs t := by
  unfold SafeOutputs OutputsSafe ChannelsOff FlightEnabled
  rw [henabled, hduty, hpwmA, hpwmB, hflight]
  exact hs

/-- Every reset state is safe, whatever the build and the ports (R153). -/
theorem safeOutputs_resetWith (p : Config.Params) (cycle : Nat) (pins : PortInputs)
    (stimulus : List PortInputs) : SafeOutputs (State.resetWith p cycle pins stimulus) := by
  simp [SafeOutputs, OutputsSafe, ChannelsOff, FlightEnabled, State.resetWith]

/-! The motor driver and the stop. -/

/-- `SetDuty` keeps the 16-bit duty in its symmetric range (R33, R119). -/
theorem setDuty_duty_bounds (fs : Level) (d : Int) (s : State) :
    -32767 ≤ (setDuty fs d s).duty.toInt ∧ (setDuty fs d s).duty.toInt ≤ 32767 := by
  obtain ⟨hlo, hhi⟩ := clampDuty_bounds fs d
  have hfs := fs.isLt
  rw [setDuty_duty, toInt_ofInt_of_within hlo hhi]
  omega

/-- `SetDuty` drives one channel at most (R34, R119). -/
theorem setDuty_pwmA_or_pwmB_zero (fs : Level) (d : Int) (s : State) :
    (setDuty fs d s).pwmA = 0#15 ∨ (setDuty fs d s).pwmB = 0#15 := by
  by_cases h : 0 < clampDuty fs d
  · exact .inr (by simp [h])
  · exact .inl (by simp [h])

/-- While Enabled any duty may be driven, and any tick be in flight. -/
theorem safeOutputs_setDuty {s : State} (he : s.enabled = true) (fs : Level) (d : Int) :
    SafeOutputs (setDuty fs d s) :=
  ⟨⟨by simp [he], setDuty_pwmA_or_pwmB_zero fs d s, setDuty_duty_bounds fs d s⟩, fun _ => he⟩

/-- A stop leaves the outputs safe, whatever they were (R101). -/
theorem safeOutputs_eStopEffect (s : State) : SafeOutputs (eStopEffect s) := by
  simp [SafeOutputs, OutputsSafe, ChannelsOff, FlightEnabled]

/-- Enabling the controller drives nothing: the duty stays as it was (R98). -/
theorem safeOutputs_enable {s : State} (hs : SafeOutputs s) : SafeOutputs { s with enabled := true } := by
  obtain ⟨⟨_, hchannel, hduty⟩, _⟩ := hs
  exact ⟨⟨by simp, hchannel, hduty⟩, fun _ => rfl⟩

/-! Ticks. -/

/-- An applied tick of an enabled controller keeps the outputs safe (R106, R112). -/
theorem safeOutputs_applyTick {s : State} (hs : SafeOutputs s) (he : s.enabled = true)
    (snap : Snapshot) : SafeOutputs (applyTick snap s) := by
  rw [applyTick_eq]
  rcases driveDuty_cases snap _ with ⟨_, _, h⟩ | ⟨_, _, h⟩ | ⟨_, h⟩ <;> rw [h]
  · exact safeOutputs_setDuty he _ _
  · exact hs.congr
  · exact safeOutputs_setDuty he _ _

/-- A tick accepted while Enabled keeps the outputs safe, applied at once or put in flight (R160). -/
theorem safeOutputs_acceptTick {s : State} (hs : SafeOutputs s) (he : s.enabled = true)
    (now : Time) : SafeOutputs (acceptTick now s) := by
  rcases acceptTick_cases now s with ⟨_, h⟩ | ⟨_, h⟩ <;> rw [h]
  · have hsampled : SafeOutputs { markSampled s with queryFlight := s.preemptedQuery } := hs.congr
    exact safeOutputs_applyTick hsampled he _
  · obtain ⟨hout, _⟩ := hs
    exact ⟨hout, fun _ => he⟩

/-- A tick request keeps the outputs safe: it is accepted only while Enabled (R102, R103). -/
theorem safeOutputs_performTick {s : State} (hs : SafeOutputs s) (taken : Bool) (now : Time) :
    SafeOutputs (performTick (tickVerdict taken now s) now s) := by
  rcases performTick_cases taken now s with h | h | ⟨_, _, he, _, h⟩ <;> rw [h]
  · exact hs.congr
  · exact hs
  · exact safeOutputs_acceptTick hs he now

/-! The positions of a cycle (R158). -/

/-- A QUERY_LENGTH drives nothing (R95). -/
theorem safeOutputs_occupyWithQuery {s : State} (hs : SafeOutputs s) :
    SafeOutputs (occupyWithQuery s) := by
  unfold occupyWithQuery
  split
  · exact hs.congr
  · exact hs.congr

/-- The answer to a command that meets an error drives nothing (R134). -/
theorem safeOutputs_answerError {s : State} (hs : SafeOutputs s) (f : Flag) (status : RspStatus) :
    SafeOutputs (answerError f status s) := by
  unfold answerError
  exact hs.congr

/-- Every command keeps the outputs safe: SET_TARGET, ESTOP, QUERY_LENGTH and TICK by their own lemmas, the
others because they write none of the five registers. -/
theorem safeOutputs_exec {i : Instr} {s c : State} (hs : SafeOutputs s) (h : exec i s = .next c) :
    SafeOutputs c := by
  rcases exec_cases h with ⟨_, _, rfl | rfl⟩ | ⟨_, rfl⟩ | ⟨_, rfl | ⟨_, rfl⟩⟩ | ⟨now, _, rfl⟩ |
    ⟨_, _, _, _, _, _, rfl⟩ | ⟨_, _, rfl⟩ | ⟨_, _, _, rfl⟩ | ⟨_, _, _, rfl⟩
  · exact (safeOutputs_enable hs).congr
  · exact (safeOutputs_enable hs).congr
  · exact (safeOutputs_eStopEffect s).congr
  · exact hs.congr
  · exact safeOutputs_occupyWithQuery hs
  · exact (safeOutputs_performTick hs false now).congr
  · exact hs.congr
  · exact hs.congr
  · exact hs.congr
  · exact safeOutputs_answerError hs _ _

/-- Position 1, the command port. -/
theorem safeOutputs_commandPort {s c : State} (hs : SafeOutputs s)
    (h : commandPort s = .next c) : SafeOutputs c := by
  rcases commandPort_cases s with ⟨_, hp⟩ | ⟨_, _, _, hp⟩ | ⟨_, _, _, _, hexec, hp⟩ <;>
    obtain rfl := Host.Outcome.next.inj (hp.symm.trans h)
  · exact hs
  · exact safeOutputs_answerError hs _ _
  · exact safeOutputs_exec hs hexec

/-- Position 2, the stop pin. -/
theorem safeOutputs_stopPin {s : State} (hs : SafeOutputs s) : SafeOutputs (stopPin s) := by
  rcases stopPin_cases s with ⟨_, h⟩ | ⟨_, h⟩ <;> rw [h]
  · exact safeOutputs_eStopEffect s
  · exact hs

/-- Position 3, the tick port. -/
theorem safeOutputs_tickPort {s : State} (hs : SafeOutputs s) (taken : Bool) :
    SafeOutputs (tickPort taken s) := by
  rcases tickPort_cases taken s with ⟨_, h⟩ | ⟨_, h⟩ <;> rw [h]
  · exact hs
  · exact safeOutputs_performTick hs taken _

/-- Position 4 for a tick: the tick in flight means Enabled, so that its commit may drive the duty. -/
theorem safeOutputs_commitTick {s : State} (hs : SafeOutputs s) : SafeOutputs (commitTick s) := by
  rcases commitTick_cases s with ⟨f, hf, _, h⟩ | ⟨_, h⟩ <;> rw [h]
  · obtain ⟨hout, hflight⟩ := hs
    have he : s.enabled = true := hflight (by simp [hf])
    have hfree : SafeOutputs { s with tickFlight := none } := ⟨hout, fun _ => he⟩
    exact safeOutputs_applyTick hfree he _
  · exact hs

/-- Positions 2 to 4; the commit of a QUERY_LENGTH, which comes last, drives nothing. -/
theorem safeOutputs_afterCommand {s : State} (hs : SafeOutputs s) (taken : Bool) :
    SafeOutputs (afterCommand taken s) := by
  have hticked := safeOutputs_tickPort (safeOutputs_stopPin hs) taken
  have hcommitted := safeOutputs_commitTick hticked
  unfold afterCommand commits
  exact hcommitted.congr

/-- Every step keeps the outputs safe (R41). -/
theorem safeOutputs_step {s t : State} (hs : SafeOutputs s) (h : step s = .next t) :
    SafeOutputs t := by
  rcases step_cases h with ⟨_, rfl⟩ | ⟨_, c, hc, rfl⟩
  · exact safeOutputs_resetWith _ _ _ _
  · have hbegin : SafeOutputs (beginCycle s) := hs.congr
    have hcommand := safeOutputs_commandPort hbegin hc
    have hafter := safeOutputs_afterCommand hcommand (commandTakesTick (beginCycle s))
    exact hafter.congr

/-- Settles O53: every reset state has `SafeOutputs`, and every step keeps it. -/
theorem everyStepKeepsTheOutputsSafe : Obligations.EveryStepKeepsTheOutputsSafe :=
  ⟨safeOutputs_resetWith, fun _ _ hout hflight h => safeOutputs_step ⟨hout, hflight⟩ h⟩

end Sys2Proof.Machine

/-! Reading the status space (10_state.md R39, R40; 43_register_access.md R130). -/

namespace Sys2Proof.Machine

/-! STAT_READ, by what its index names. -/

/-- An index above 10 names no status register (R39). -/
theorem statRegAt_of_unmapped {idx : Idx} (h : 11 ≤ idx.toNat) : statRegAt idx = none := by
  revert idx
  decide

theorem exec_statRead_of_unmapped {idx : Idx} (h : 11 ≤ idx.toNat) (s : State) :
    exec (.statRead idx) s = .next (answerIllegal s) := by
  simp [exec, execStatRead, statRegAt_of_unmapped h]

theorem exec_statRead_of_mapped {idx : Idx} {r : StatReg} (h : statRegAt idx = some r) (s : State) :
    exec (.statRead idx) s = .next (respond .ok (statVal r s) s) := by
  simp [exec, execStatRead, h]

/-- Zero extension keeps the register's value as a natural number. -/
theorem setWidth_eq_ofInt_toNat {v : Nat} (x : BitVec v) (w : Nat) :
    x.setWidth w = BitVec.ofInt w (x.toNat : Int) := by
  rw [BitVec.ofInt_natCast, BitVec.ofNat_toNat]

/-- One row of the table of R39: the index names `r`, and `r` reads as the number `v`. -/
theorem statRead_answers {idx : Idx} (r : StatReg) {s : State} {v : Int}
    (hr : statRegAt idx = some r) (hv : statVal r s = BitVec.ofInt 32 v) :
    ∃ t, exec (.statRead idx) s = .next t ∧ t.rspData = BitVec.ofInt 32 v ∧
      t = { s with rspValid := true, rspStatus := 0#2, rspData := t.rspData } :=
  ⟨_, exec_statRead_of_mapped hr s, hv, rfl⟩

/-- Settles O16, row by row of R39: `ID` is its constant, DUTY is sign-extended, the three 32-bit words
read as they are and the others are zero-extended. -/
theorem statReadReturnsTheRegister : Obligations.StatReadReturnsTheRegister := by
  refine ⟨fun s idx h => ⟨_, exec_statRead_of_unmapped h s, rfl, rfl⟩, fun s => ?_⟩
  simp only [List.forall_mem_cons]
  refine ⟨?status, ?flags, ?target, ?duty, ?pwmA, ?pwmB, ?lastLength, ?lastUpdate, ?tickCount,
    ?lastRaw, ?id, by simp⟩
  case id => exact statRead_answers .id rfl rfl
  case duty => exact statRead_answers .duty rfl rfl
  case status => exact statRead_answers .status rfl (by simp [statVal])
  case lastUpdate => exact statRead_answers .lastUpdate rfl (by simp [statVal])
  case tickCount => exact statRead_answers .tickCount rfl (by simp [statVal])
  case flags => exact statRead_answers .flags rfl (setWidth_eq_ofInt_toNat _ 32)
  case target => exact statRead_answers .target rfl (setWidth_eq_ofInt_toNat _ 32)
  case pwmA => exact statRead_answers .pwmA rfl (setWidth_eq_ofInt_toNat _ 32)
  case pwmB => exact statRead_answers .pwmB rfl (setWidth_eq_ofInt_toNat _ 32)
  case lastLength => exact statRead_answers .lastLength rfl (setWidth_eq_ofInt_toNat _ 32)
  case lastRaw => exact statRead_answers .lastRaw rfl (setWidth_eq_ofInt_toNat _ 32)

/-! The STATUS word. -/

/-- The STATUS word is its four fields appended bit by bit to zeros, ENABLED last (R40). -/
theorem statusWord_eq_concat (s : State) :
    statusWord s =
      ((((0#28).concat (diagIrq s)).concat s.lastTickFault).concat s.busy).concat s.enabled := rfl

/-- Settles O17: the last bit of a `concat` is bit 0, and bit `n + 1` is bit `n` of the rest. -/
theorem statusWordHasItsFourBits : Obligations.StatusWordHasItsFourBits := by
  intro s
  rw [statusWord_eq_concat]
  refine ⟨?enabled, ?busy, ?lastTickFault, ?diagIrq, fun n hn => ?above⟩
  case above =>
    obtain ⟨k, rfl⟩ := Nat.exists_eq_add_of_le' hn
    simp only [BitVec.getLsbD_concat_succ, BitVec.getLsbD_zero]
  all_goals simp only [BitVec.getLsbD_concat_succ, BitVec.getLsbD_concat_zero]

end Sys2Proof.Machine

/-! The decoder in the closed form of R75, and what a word that spells no command of a mapped register does
(30_encoding.md R62 to R75; 60_exceptions.md R135). -/

namespace Sys2Proof

/-- The command that an operation code below 9 stands for, with its operands (R71, R75). -/
def commandOf (op : OpCode) (idx : Idx) (data : Data) : Instr :=
  match op.toNat with
  | 0 => .nop
  | 1 => .setTarget data
  | 2 => .estop
  | 3 => .queryLength
  | 4 => .tick data
  | 5 => .cfgWrite idx data
  | 6 => .cfgRead idx
  | 7 => .statRead idx
  | _ => .clearFlags data

/-- Formats N and I use no DATA (R63, R74). -/
theorem commandOf_ignores_data {op : OpCode} (hop : op.toNat ∈ [0, 2, 3, 6, 7]) (idx : Idx)
    (d e : Data) : commandOf op idx d = commandOf op idx e := by
  simp only [List.mem_cons, List.not_mem_nil, or_false] at hop
  rcases hop with h | h | h | h | h <;> simp [commandOf, h]

/-- The operation codes by format: reserved, N or D, ID or I (R63, R71, R72). -/
theorem opcode_cases (n : Nat) : 9 ≤ n ∨ n ∈ [0, 1, 2, 3, 4, 8] ∨ n ∈ [5, 6, 7] := by
  simp only [List.mem_cons, List.not_mem_nil, or_false]
  omega

/-! What a word of each format decodes to. -/

theorem decode_of_reserved {w : CommandWord} (hop : 9 ≤ (opField w).toNat) :
    decode w = .illegal (.reservedOpcode (opField w)) := by
  obtain ⟨k, hk⟩ := Nat.exists_eq_add_of_le' hop
  simp [decode, hk]

theorem decode_of_formatN_or_D {w : CommandWord} (hop : (opField w).toNat ∈ [0, 1, 2, 3, 4, 8]) :
    decode w = withoutIndex w (commandOf (opField w) (idxField w) (dataField w)) := by
  simp only [List.mem_cons, List.not_mem_nil, or_false] at hop
  rcases hop with h | h | h | h | h | h <;> simp [decode, commandOf, h]

theorem decode_of_formatID_or_I {w : CommandWord} (hop : (opField w).toNat ∈ [5, 6, 7]) :
    decode w = .command (commandOf (opField w) (idxField w) (dataField w)) := by
  simp only [List.mem_cons, List.not_mem_nil, or_false] at hop
  rcases hop with h | h | h <;> simp [decode, commandOf, h]

theorem decode_of_nonzeroIndex {w : CommandWord} (hop : (opField w).toNat ∈ [0, 1, 2, 3, 4, 8])
    (hidx : idxField w ≠ 0#4) : decode w = .illegal (.nonzeroIndex (opField w) (idxField w)) := by
  rw [decode_of_formatN_or_D hop, withoutIndex, if_neg hidx]

/-- The pseudocode of R75: the two kinds of illegal word, and else the one command. -/
theorem decode_eq (w : CommandWord) :
    decode w =
      if 9 ≤ (opField w).toNat then .illegal (.reservedOpcode (opField w))
      else if (opField w).toNat ∈ [0, 1, 2, 3, 4, 8] ∧ idxField w ≠ 0#4 then
        .illegal (.nonzeroIndex (opField w) (idxField w))
      else .command (commandOf (opField w) (idxField w) (dataField w)) := by
  split
  next hreserved => exact decode_of_reserved hreserved
  next hdefined =>
    split
    next h => exact decode_of_nonzeroIndex h.1 h.2
    next hindex =>
      rcases opcode_cases (opField w).toNat with hop | hop | hop
      · exact absurd hop hdefined
      · have hzero : idxField w = 0#4 := not_not.1 fun hne => hindex ⟨hop, hne⟩
        rw [decode_of_formatN_or_D hop, withoutIndex, if_pos hzero]
      · exact decode_of_formatID_or_I hop

/-- A word is illegal exactly where R75 says. -/
theorem decode_illegal_iff (w : CommandWord) :
    (∃ why, decode w = .illegal why) ↔
      9 ≤ (opField w).toNat ∨ ((opField w).toNat ∈ [0, 1, 2, 3, 4, 8] ∧ idxField w ≠ 0#4) := by
  constructor
  · rintro ⟨why, h⟩
    by_contra hlegal
    rw [not_or] at hlegal
    obtain ⟨hdefined, hindex⟩ := hlegal
    rw [decode_eq, if_neg hdefined, if_neg hindex] at h
    cases h
  · rintro (hop | ⟨hop, hidx⟩)
    · exact ⟨_, decode_of_reserved hop⟩
    · exact ⟨_, decode_of_nonzeroIndex hop hidx⟩

/-- A word spells at most one command, with its own fields as operands (R75). -/
theorem eq_commandOf_of_decode {w : CommandWord} {i : Instr} (h : decode w = .command i) :
    i = commandOf (opField w) (idxField w) (dataField w) := by
  rw [decode_eq] at h
  split at h
  · cases h
  · split at h
    · cases h
    · cases h; rfl

/-- A word of format N or I decodes as it does with `DATA = 0` (R74). -/
theorem decode_commandWord_ignores_data {op : OpCode} (hop : op.toNat ∈ [0, 2, 3, 6, 7]) (idx : Idx)
    (data : Data) : decode (commandWord op idx data) = decode (commandWord op idx 0#32) := by
  simp only [decode_eq, opField_commandWord, idxField_commandWord, dataField_commandWord,
    commandOf_ignores_data hop idx data 0#32]

theorem Idx.mapped_eq_false_iff (i : Idx) : Idx.mapped i = false ↔ 11 ≤ i.toNat := by
  simp only [Idx.mapped, decide_eq_false_iff_not]
  omega

/-- The three register commands name an unmapped register by an index above 10 (R18, R39). -/
theorem commandOf_not_wellFormed {op : OpCode} {idx : Idx} (hop : op.toNat ∈ [5, 6, 7])
    (hidx : 11 ≤ idx.toNat) (data : Data) : (commandOf op idx data).wellFormed = false := by
  have hunmapped := (Idx.mapped_eq_false_iff idx).2 hidx
  simp only [List.mem_cons, List.not_mem_nil, or_false] at hop
  rcases hop with h | h | h <;> simpa [commandOf, h, Instr.wellFormed]

end Sys2Proof

namespace Sys2Proof.Machine

open Sys2Proof.Safety

/-! The two ways to the ILLEGAL answer. -/

/-- What a word does is fixed by how it decodes (R75). -/
theorem perform_congr {v w : CommandWord} (h : decode v = decode w) (s : State) :
    perform v s = perform w s := by
  unfold perform
  rw [h]

theorem perform_of_command {w : CommandWord} {i : Instr} (h : decode w = .command i) (s : State) :
    perform w s = exec i s := by
  simp [perform, h]

theorem perform_of_illegal {w : CommandWord} {why : DecodeError} (h : decode w = .illegal why)
    (s : State) : perform w s = .next (answerIllegal s) := by
  simp [perform, h]

/-- An index above 10 names no configuration register (R18). -/
theorem cfgRegAt_of_unmapped {idx : Idx} (h : 11 ≤ idx.toNat) : cfgRegAt idx = none := by
  revert idx
  decide

theorem exec_cfgWrite_of_unmapped {idx : Idx} (h : 11 ≤ idx.toNat) (data : Data) (s : State) :
    exec (.cfgWrite idx data) s = .next (answerIllegal s) := by
  simp [exec, execCfgWrite, cfgRegAt_of_unmapped h]

theorem exec_cfgRead_of_unmapped {idx : Idx} (h : 11 ≤ idx.toNat) (s : State) :
    exec (.cfgRead idx) s = .next (answerIllegal s) := by
  simp [exec, execCfgRead, cfgRegAt_of_unmapped h]

/-- A command that names an unmapped register is answered ILLEGAL (R127, R129, R130). -/
theorem exec_of_not_wellFormed {i : Instr} (h : i.wellFormed = false) (s : State) :
    exec i s = .next (answerIllegal s) := by
  cases i with
  | cfgWrite idx data => exact exec_cfgWrite_of_unmapped ((Idx.mapped_eq_false_iff idx).1 h) data s
  | cfgRead idx => exact exec_cfgRead_of_unmapped ((Idx.mapped_eq_false_iff idx).1 h) s
  | statRead idx => exact exec_statRead_of_unmapped ((Idx.mapped_eq_false_iff idx).1 h) s
  | nop | setTarget | estop | queryLength | tick | clearFlags => cases h

/-- Settles O3: by the closed form of `decode`, and because both kinds of word meet in the ILLEGAL answer. -/
theorem decodeIsTotalAndIllegalExactly : Obligations.DecodeIsTotalAndIllegalExactly := by
  refine fun w => ⟨decode_illegal_iff w, fun i h => eq_commandOf_of_decode h, ?_⟩
  intro i v why s hw hunmapped hv
  rw [perform_of_command hw, exec_of_not_wellFormed hunmapped, perform_of_illegal hv]

/-! Operand bits that are ignored (R74). -/

/-- A register takes only the DATA bits of its width (R128). -/
theorem writeCfg_congr {r : CfgReg} {d e : Data} (h : d.setWidth r.width = e.setWidth r.width)
    (c : CfgRegs) : writeCfg r d c = writeCfg r e c := by
  cases r with
  | minPeriod =>
    have hde : d = e := by simpa [CfgReg.width] using h
    rw [hde]
  | ctrlCfg | l1 | l2 | offset | anchor | lmin | lmax | kp | dutyFs | irqMask =>
    simp only [CfgReg.width] at h
    simp only [writeCfg, h]

/-- The low bits of a word are its value modulo a power of two. -/
theorem setWidth_eq_of_toNat_mod_eq {m n : Nat} {d e : BitVec m}
    (h : d.toNat % 2 ^ n = e.toNat % 2 ^ n) : d.setWidth n = e.setWidth n := by
  apply BitVec.eq_of_toNat_eq
  simpa only [BitVec.toNat_setWidth] using h

/-- A CFG_WRITE ignores the DATA bits above the register's width (R74). -/
theorem exec_cfgWrite_congr {idx : Idx} {n : Nat} (hreg : (cfgRegAt idx).map CfgReg.width = some n)
    {d e : Data} (h : d.toNat % 2 ^ n = e.toNat % 2 ^ n) (s : State) :
    exec (.cfgWrite idx d) s = exec (.cfgWrite idx e) s := by
  obtain ⟨r, hr, rfl⟩ := Option.map_eq_some_iff.1 hreg
  simp only [exec, execCfgWrite, hr, writeCfg_congr (setWidth_eq_of_toNat_mod_eq h)]

/-- CLEAR_FLAGS ignores DATA bits 31:6 (R69, R74). -/
theorem exec_clearFlags_congr {d e : Data} (h : d.toNat % 2 ^ 6 = e.toNat % 2 ^ 6) (s : State) :
    exec (.clearFlags d) s = exec (.clearFlags e) s := by
  simp only [exec, execClearFlags, flagMask, setWidth_eq_of_toNat_mod_eq h]

/-- Settles O4: the decoder drops the DATA of formats N and I, and the two operations that take DATA only in
part read it through a `setWidth`. -/
theorem unusedDataIsIgnored : Obligations.UnusedDataIsIgnored := by
  refine ⟨fun op idx data s hop => ?ignored, fun p hp => ?register, fun d e s h => ?mask⟩
  case ignored =>
    have hdecode := decode_commandWord_ignores_data hop idx data
    exact ⟨hdecode, perform_congr hdecode s⟩
  case register =>
    have hwidth : (cfgRegAt p.1).map CfgReg.width = some p.2 := by
      revert p
      decide
    exact fun d e s h => exec_cfgWrite_congr hwidth h s
  case mask => exact exec_clearFlags_congr h s

/-! A word answered ILLEGAL, alone and over a quiet step (R72, R73, R135). -/

/-- The three sources of ILLEGAL in R135 lead to the same answer. -/
theorem perform_eq_answerIllegal {w : CommandWord}
    (h : 9 ≤ (opField w).toNat ∨ ((opField w).toNat ∈ [0, 1, 2, 3, 4, 8] ∧ idxField w ≠ 0#4) ∨
      ((opField w).toNat ∈ [5, 6, 7] ∧ 11 ≤ (idxField w).toNat)) (s : State) :
    perform w s = .next (answerIllegal s) := by
  rcases h with hop | ⟨hop, hidx⟩ | ⟨hop, hunmapped⟩
  · exact perform_of_illegal (decode_of_reserved hop) s
  · exact perform_of_illegal (decode_of_nonzeroIndex hop hidx) s
  · rw [perform_of_command (decode_of_formatID_or_I hop)]
    exact exec_of_not_wellFormed (commandOf_not_wellFormed hop hunmapped _) s

/-- ILLEGAL is ILLEGAL_CMD and the response register, nothing else (R135). -/
theorem answerIllegal_eq (s : State) :
    answerIllegal s =
      { s with flags := s.flags ||| 0b001000#6, rspValid := true, rspStatus := 1#2, rspData := 0#32 } :=
  rfl

/-- Positions 2 to 4 of a cycle do nothing when neither pin asks and nothing is in flight (R158). -/
theorem afterCommand_of_quiet {s : State} (hstop : s.pins.estopReq = false)
    (htick : s.pins.tickValid = false) (hflight : s.tickFlight = none) (hquery : s.queryFlight = none)
    (taken : Bool) : afterCommand taken s = s := by
  have h2 : stopPin s = s := by simp [stopPin, hstop]
  have h3 : tickPort taken s = s := by simp [tickPort, htick]
  have h4 : commitTick s = s := by simp [commitTick, hflight]
  have h5 : commitQuery s = s := by simp [commitQuery, hquery]
  rw [afterCommand, commits, h2, h3, h4, h5]

/-- A command is accepted when it is presented without a reset and no QUERY_LENGTH is owed its answer
(R61). -/
theorem accepts_of_presented {s : State} (hrst : s.pins.rst = false) (hvalid : s.pins.cmdValid = true)
    (hquery : s.queryFlight = none) : s.accepts = true := by
  simp [State.accepts, State.cmdReady, State.portFree, hrst, hvalid, hquery]

theorem commandPort_of_accepts {s : State} (h : s.accepts = true) :
    commandPort s = perform s.pins.cmdWord s := by
  simp [commandPort, h]

/-- Settles O8: the ILLEGAL answer by the three sources of R135; over a quiet step it is all that happens. -/
theorem illegalWordOnlyFlagsAndAnswers : Obligations.IllegalWordOnlyFlagsAndAnswers := by
  refine fun w hw => ⟨fun s => (perform_eq_answerIllegal hw s).trans
    (congrArg Host.Outcome.next (answerIllegal_eq s)), ?_⟩
  rintro s hrst hvalid rfl hstop htick hflight hquery
  have haccepts : (beginCycle s).accepts = true := accepts_of_presented hrst hvalid hquery
  have hcommand : commandPort (beginCycle s) = .next (answerIllegal (beginCycle s)) :=
    (commandPort_of_accepts haccepts).trans (perform_eq_answerIllegal hw _)
  have hquiet := afterCommand_of_quiet (s := answerIllegal (beginCycle s)) hstop htick hflight hquery
  have hstep := step_cycle hrst hcommand
  rw [hquiet] at hstep
  exact ⟨_, hstep, rfl, rfl, rfl, rfl, hflight, hquery, rfl⟩

end Sys2Proof.Machine

/-! The scaled operands of the pseudo-instructions (30_encoding.md R80). -/

namespace Sys2Proof.Machine.Asm

/-- `round_half_up` is the floor of `x * scale + 1/2`, both sides multiplied by twice the denominator. -/
theorem roundHalfUp_floor (x : Decimal) (scale : Nat) :
    2 * (10 : Int) ^ x.places * roundHalfUp x scale ≤ 2 * x.mantissa * scale + 10 ^ x.places ∧
    2 * x.mantissa * scale + 10 ^ x.places <
      2 * (10 : Int) ^ x.places * (roundHalfUp x scale + 1) := by
  have hpos : 0 < 2 * (10 : Int) ^ x.places := by positivity
  rw [mul_add_one]
  exact ⟨Int.mul_ediv_self_le hpos.ne', Int.lt_mul_ediv_self_add hpos⟩

theorem roundHalfUp_nonneg {x : Decimal} (h : 0 ≤ x.mantissa) (scale : Nat) :
    0 ≤ roundHalfUp x scale := by
  unfold roundHalfUp
  positivity

/-! The three outcomes of a scaled operand. -/

theorem scaledOperand_of_negative {x : Decimal} (h : x.mantissa < 0) (scale : Nat) :
    scaledOperand x scale = .error .negativeArgument := by
  simp [scaledOperand, h]

theorem scaledOperand_of_tooWide {x : Decimal} {scale : Nat} (h : 0 ≤ x.mantissa)
    (hwide : 2 ^ 32 ≤ roundHalfUp x scale) : scaledOperand x scale = .error .operandTooWide := by
  rw [scaledOperand, if_neg h.not_gt, if_pos hwide]

theorem scaledOperand_of_fits {x : Decimal} {scale : Nat} (h : 0 ≤ x.mantissa)
    (hfits : roundHalfUp x scale < 2 ^ 32) :
    scaledOperand x scale = .ok (BitVec.ofInt 32 (roundHalfUp x scale)) := by
  rw [scaledOperand, if_neg h.not_gt, if_neg hfits.not_ge]

/-- A number from 0 to 2^32 - 1 is the value of its word. -/
theorem toNat_ofInt_of_fits {r : Int} (h : 0 ≤ r) (hfits : r < 2 ^ 32) :
    ((BitVec.ofInt 32 r).toNat : Int) = r := by
  rw [BitVec.toNat_ofInt]
  omega

/-! The expansions that carry a scaled operand. -/

theorem setTargetM_expand {x : Decimal} {d : Data} (h : scaledOperand x 65536 = .ok d) :
    (Pseudo.setTargetM x).expand = .ok (.setTarget d) := by
  simp [Pseudo.expand, h, Except.map]

theorem setLen_expand {x : Decimal} {d : Data} (h : scaledOperand x 65536 = .ok d) (reg : LengthReg) :
    (Pseudo.setLen reg x).expand = .ok (.cfgWrite reg.index d) := by
  simp [Pseudo.expand, h, Except.map]

theorem setGain_expand {x : Decimal} {d : Data} (h : scaledOperand x 4096 = .ok d) :
    (Pseudo.setGain x).expand = .ok (.cfgWrite 7#4 d) := by
  simp [Pseudo.expand, h, Except.map]

/-- Settles O60: rounding is integer division, which gives the floor and with it the three outcomes; the
expansions carry the operand over, and R81's examples are evaluated. -/
theorem pseudoInstructionsExpand : Obligations.PseudoInstructionsExpand := by
  refine ⟨fun x scale => ?operand, fun x d h => ⟨setTargetM_expand h, ?lengths⟩,
    fun x d h => setGain_expand h, rfl, rfl, rfl, rfl, rfl, rfl, rfl, rfl,
    setTargetM_expand (by decide), setGain_expand (by decide), setTargetM_expand (by decide)⟩
  case operand =>
    obtain ⟨hle, hlt⟩ := roundHalfUp_floor x scale
    refine ⟨hle, hlt, fun h => scaledOperand_of_negative h scale, scaledOperand_of_tooWide, ?_⟩
    exact fun h hfits => ⟨_, scaledOperand_of_fits h hfits,
      toNat_ofInt_of_fits (roundHalfUp_nonneg h scale) hfits⟩
  case lengths =>
    simp only [List.forall_mem_cons]
    exact ⟨setLen_expand h .l1, setLen_expand h .l2, setLen_expand h .lmin, setLen_expand h .lmax,
      by simp⟩

end Sys2Proof.Machine.Asm

/-! The angle-to-length converter: the wrapped angle code, the joint code in the two styles, and the length
between the sides of the triangle (40_kinematics.md R84 to R91). -/

namespace Sys2Proof.Machine

/-! The angle code. -/

/-- The offset code is an encoder code again (R84). -/
theorem offsetCode_bounds (raw offset : AngleCode) :
    0 ≤ offsetCode raw offset ∧ offsetCode raw offset ≤ 1023 := by
  unfold offsetCode
  omega

/-- The half turn itself is kept (R85). -/
theorem wrapCode_of_le {a : Int} (h : a ≤ 512) : wrapCode a = a := if_pos h

theorem wrapCode_of_lt {a : Int} (h : 512 < a) : wrapCode a = a - 1024 := if_neg (by omega)

theorem wrapCode_bounds {a : Int} (h0 : 0 ≤ a) (h1 : a ≤ 1023) :
    -511 ≤ wrapCode a ∧ wrapCode a ≤ 512 := by
  rcases le_or_gt a 512 with h | h
  · rw [wrapCode_of_le h]; omega
  · rw [wrapCode_of_lt h]; omega

/-- The wrap moves a code by whole turns. -/
theorem wrapCode_emod {a : Int} (h0 : 0 ≤ a) (h1 : a ≤ 1023) : wrapCode a % 1024 = a := by
  rcases le_or_gt a 512 with h | h
  · rw [wrapCode_of_le h]; omega
  · rw [wrapCode_of_lt h]; omega

/-- Settles O22: a second wrap meets the same code, because the first moved it by whole turns. -/
theorem wrapIsIdempotentIntoRange : Obligations.WrapIsIdempotentIntoRange := by
  refine ⟨fun raw offset => ⟨rfl, offsetCode_bounds raw offset⟩, wrapCode_of_le le_rfl, ?_⟩
  intro a h0 h1
  obtain ⟨hlow, hhigh⟩ := wrapCode_bounds h0 h1
  exact ⟨wrapCode_of_le, fun h => wrapCode_of_lt (by omega), hlow, hhigh,
    congrArg wrapCode (wrapCode_emod h0 h1)⟩

/-! The joint code and the fault, by bit 0 of CTRL_CFG. -/

theorem kinStyle_of_bit_clear {c : CfgRegs} (h : c.ctrlCfg.getLsbD 0 = false) :
    c.kinStyle = .anchor := by
  rw [CfgRegs.kinStyle, h]; rfl

theorem kinStyle_of_bit_set {c : CfgRegs} (h : c.ctrlCfg.getLsbD 0 = true) :
    c.kinStyle = .clamp := by
  rw [CfgRegs.kinStyle, h]; rfl

theorem jointOf_of_anchor {c : CfgRegs} (h : c.kinStyle = .anchor) (raw : AngleCode) :
    jointOf c raw = wrapCode (offsetCode raw c.offset) + c.anchor.toNat := by
  rw [jointOf, h, jointCode]

theorem jointOf_of_clamp {c : CfgRegs} (h : c.kinStyle = .clamp) (raw : AngleCode) :
    jointOf c raw = min (max (wrapCode (offsetCode raw c.offset)) 0) 256 := by
  rw [jointOf, h, jointCode, clampInt]

/-- ANCHOR style faults off the monotonic branch 0..512 (R87). -/
theorem kin_fault_iff_of_anchor {c : CfgRegs} (h : c.kinStyle = .anchor) (raw : AngleCode) :
    (kin c raw).2 = true ↔ jointOf c raw < 0 ∨ 512 < jointOf c raw := by
  simp only [kin, h, jointFault, decide_eq_true_eq]

theorem kin_fault_of_clamp {c : CfgRegs} (h : c.kinStyle = .clamp) (raw : AngleCode) :
    (kin c raw).2 = false := by
  simp only [kin, h, jointFault]

/-- Settles O23: ANCHOR adds a code of 0..1023 to the wrapped code; CLAMP stays within 0..256. -/
theorem kinFaultsOffTheMonotonicBranch : Obligations.KinFaultsOffTheMonotonicBranch := by
  intro c raw
  obtain ⟨hoff0, hoff1⟩ := offsetCode_bounds raw c.offset
  obtain ⟨hlow, hhigh⟩ := wrapCode_bounds hoff0 hoff1
  constructor
  · intro hbit
    have hstyle := kinStyle_of_bit_clear hbit
    have hjoint := jointOf_of_anchor hstyle raw
    have hanchor := c.anchor.isLt
    exact ⟨hjoint, by omega, by omega, kin_fault_iff_of_anchor hstyle raw⟩
  · intro hbit
    have hstyle := kinStyle_of_bit_set hbit
    have hjoint := jointOf_of_clamp hstyle raw
    exact ⟨hjoint, by omega, by omega, kin_fault_of_clamp hstyle raw⟩

/-! The radicand (R88, R89). -/

/-- A nonnegative number times a cosine code. -/
theorem mul_cosine_bounds {p c : Int} (hp : 0 ≤ p) (hlow : -32768 ≤ c) (hhigh : c ≤ 32768) :
    -(32768 * p) ≤ p * c ∧ p * c ≤ 32768 * p := by
  have h1 := mul_le_mul_of_nonneg_left hlow hp
  have h2 := mul_le_mul_of_nonneg_left hhigh hp
  omega

/-- The product of two numbers of 16 bits fits 32 bits. -/
theorem toNat_mul_toNat_bounds (x y : BitVec 16) :
    0 ≤ (x.toNat : Int) * y.toNat ∧ (x.toNat : Int) * y.toNat < 2 ^ 32 := by
  have h : x.toNat * y.toNat ≤ 65535 * 65535 :=
    Nat.mul_le_mul (by have := x.isLt; omega) (by have := y.isLt; omega)
  zify at h
  exact ⟨by positivity, by omega⟩

/-- The law of cosines between the flat and the stretched triangle (R89). -/
theorem radicand_bounds (l1 l2 : BitVec 16) {c : Int} (hlow : -32768 ≤ c) (hhigh : c ≤ 32768) :
    16384 * (((l1.toNat : Int) - l2.toNat) * ((l1.toNat : Int) - l2.toNat)) ≤ radicand l1 l2 c ∧
    radicand l1 l2 c ≤ 16384 * (((l1.toNat : Int) + l2.toNat) * ((l1.toNat : Int) + l2.toNat)) := by
  obtain ⟨hfrom, hto⟩ := mul_cosine_bounds (toNat_mul_toNat_bounds l1 l2).1 hlow hhigh
  unfold radicand
  constructor <;> linarith

/-- At `C = 32768` the triangle is flat. -/
theorem radicand_flat (l1 l2 : BitVec 16) :
    radicand l1 l2 32768 = 16384 * (((l1.toNat : Int) - l2.toNat) * ((l1.toNat : Int) - l2.toNat)) := by
  unfold radicand
  ring

/-- At `C = -32768` the triangle is stretched. -/
theorem radicand_stretched (l1 l2 : BitVec 16) :
    radicand l1 l2 (-32768) =
      16384 * (((l1.toNat : Int) + l2.toNat) * ((l1.toNat : Int) + l2.toNat)) := by
  unfold radicand
  ring

/-- The radicand is a number of 48 bits (R89). -/
theorem radicand_fits (l1 l2 : BitVec 16) {c : Int} (hlow : -32768 ≤ c) (hhigh : c ≤ 32768) :
    0 ≤ radicand l1 l2 c ∧ radicand l1 l2 c < 2 ^ 48 := by
  obtain ⟨hfrom, hto⟩ := radicand_bounds l1 l2 hlow hhigh
  have hdiff := mul_self_nonneg ((l1.toNat : Int) - l2.toNat)
  have hsum : (l1.toNat + l2.toNat) * (l1.toNat + l2.toNat) ≤ 131070 * 131070 :=
    Nat.mul_self_le_mul_self (by have := l1.isLt; have := l2.isLt; omega)
  zify at hsum
  omega

/-! The length (R89, R91): `isqrt(R) >> 7` against a whole number, by the square of 128 times that number. -/

theorem lengthOf_eq_div (l1 l2 : BitVec 16) (c : Int) :
    lengthOf l1 l2 c = isqrt (radicand l1 l2 c).toNat / 2 ^ 7 :=
  Nat.shiftRight_eq_div_pow _ _

theorem le_lengthOf {l1 l2 : BitVec 16} {c : Int} {d : Nat}
    (h : 16384 * ((d : Int) * d) ≤ radicand l1 l2 c) : d ≤ lengthOf l1 l2 c := by
  have hsquare : (128 * d) * (128 * d) ≤ (radicand l1 l2 c).toNat := by
    zify
    exact le_trans (by linarith) (Int.self_le_toNat _)
  have hroot := le_isqrt hsquare
  rw [lengthOf_eq_div]
  omega

theorem lengthOf_le {l1 l2 : BitVec 16} {c : Int} {d : Nat}
    (h : radicand l1 l2 c ≤ 16384 * ((d : Int) * d)) : lengthOf l1 l2 c ≤ d := by
  have hsquare : (radicand l1 l2 c).toNat < (128 * d + 1) * (128 * d + 1) := by
    rw [Int.toNat_lt' (by positivity)]
    push_cast
    linarith
  have hroot := isqrt_lt hsquare
  rw [lengthOf_eq_div]
  omega

/-- The triangle inequality of the length (R89). -/
theorem lengthOf_bounds (l1 l2 : BitVec 16) {c : Int} (hlow : -32768 ≤ c) (hhigh : c ≤ 32768) :
    ((l1.toNat : Int) - l2.toNat).natAbs ≤ lengthOf l1 l2 c ∧
    lengthOf l1 l2 c ≤ l1.toNat + l2.toNat := by
  obtain ⟨hfrom, hto⟩ := radicand_bounds l1 l2 hlow hhigh
  exact ⟨le_lengthOf (by rwa [Int.natAbs_mul_self']), lengthOf_le (by exact_mod_cast hto)⟩

theorem lengthOf_flat (l1 l2 : BitVec 16) :
    lengthOf l1 l2 32768 = ((l1.toNat : Int) - l2.toNat).natAbs :=
  le_antisymm (lengthOf_le (by rw [radicand_flat, Int.natAbs_mul_self']))
    (lengthOf_bounds l1 l2 (by decide) le_rfl).1

theorem lengthOf_stretched (l1 l2 : BitVec 16) :
    lengthOf l1 l2 (-32768) = l1.toNat + l2.toNat :=
  le_antisymm (lengthOf_bounds l1 l2 le_rfl (by decide)).2
    (le_lengthOf (by rw [radicand_stretched]; push_cast; exact le_rfl))

/-- The length fits its 17 bits at every joint code (R89). -/
theorem toNat_lengthAt (c : CfgRegs) (j : Int) :
    (lengthAt c j).toNat = lengthOf c.l1 c.l2 (cosCode (j % 1024).toNat) := by
  obtain ⟨hlow, hhigh⟩ := cosCode_bounds (j % 1024).toNat
  have hlen := (lengthOf_bounds c.l1 c.l2 hlow hhigh).2
  have h1 := c.l1.isLt
  have h2 := c.l2.isLt
  rw [lengthAt, BitVec.toNat_ofNat, Nat.mod_eq_of_lt (by omega)]

/-- The triangle inequality of the length at every joint code (R89). -/
theorem lengthAt_bounds (c : CfgRegs) (j : Int) :
    |(c.l1.toNat : Int) - c.l2.toNat| ≤ (lengthAt c j).toNat ∧
    ((lengthAt c j).toNat : Int) ≤ c.l1.toNat + c.l2.toNat := by
  obtain ⟨hlow, hhigh⟩ := cosCode_bounds (j % 1024).toNat
  obtain ⟨hfrom, hto⟩ := lengthOf_bounds c.l1 c.l2 hlow hhigh
  rw [toNat_lengthAt, Int.abs_eq_natAbs]
  exact ⟨Int.ofNat_le.2 hfrom, by exact_mod_cast hto⟩

theorem lengthAt_zero (c : CfgRegs) :
    ((lengthAt c 0).toNat : Int) = |(c.l1.toNat : Int) - c.l2.toNat| := by
  have hcos : cosCode ((0 : Int) % 1024).toNat = 32768 := by decide
  rw [toNat_lengthAt, hcos, lengthOf_flat, Int.abs_eq_natAbs]

theorem lengthAt_halfTurn (c : CfgRegs) :
    ((lengthAt c 512).toNat : Int) = c.l1.toNat + c.l2.toNat := by
  have hcos : cosCode ((512 : Int) % 1024).toNat = -32768 := by decide
  rw [toNat_lengthAt, hcos, lengthOf_stretched, Nat.cast_add]

/-- Settles O28: the cosine moves the radicand between the squares of 128 times the difference and 128 times
the sum of the links, the root and the shift keep that order, and at the two ends it is one of the squares. -/
theorem lengthIsWithinTheTriangle : Obligations.LengthIsWithinTheTriangle := by
  intro c j
  dsimp only
  obtain ⟨hcosLow, hcosHigh⟩ := cosCode_bounds (j % 1024).toNat
  have hsquare1 := toNat_mul_toNat_bounds c.l1 c.l1
  have hsquare2 := toNat_mul_toNat_bounds c.l2 c.l2
  obtain ⟨hprodLow, hprodHigh⟩ := toNat_mul_toNat_bounds c.l1 c.l2
  have hcosProd := mul_cosine_bounds hprodLow hcosLow hcosHigh
  obtain ⟨hrFrom, hrTo⟩ := radicand_bounds c.l1 c.l2 hcosLow hcosHigh
  obtain ⟨hrNonneg, hrFits⟩ := radicand_fits c.l1 c.l2 hcosLow hcosHigh
  have hroot : isqrt (radicand c.l1 c.l2 (cosCode (j % 1024).toNat)).toNat < 2 ^ 24 :=
    isqrt_lt (by omega)
  obtain ⟨hlenLow, hlenHigh⟩ := lengthAt_bounds c j
  have hlen := (toNat_lengthAt c j).trans (lengthOf_eq_div _ _ _)
  have h1 := c.l1.isLt
  have h2 := c.l2.isLt
  exact ⟨hcosHigh, hcosLow, by omega, by omega, by omega, by omega, hrFrom, hrTo, hrNonneg, hrFits, hroot,
    hlen, hlenLow, hlenHigh, by omega, fun h => h ▸ lengthAt_zero c, fun h => h ▸ lengthAt_halfTurn c⟩

end Sys2Proof.Machine

/-! The position controller: the stored target, the error of a tick, and the proportional law
(41_controller.md R99, R107 to R111, R115). -/

namespace Sys2Proof.Machine

/-! The target (R98, R99). -/

theorem exec_setTarget_stores (target : Data) (s : State) :
    ∃ t, exec (.setTarget target) s = .next t ∧
      t.target = BitVec.ofNat 17 (clampedTarget s.cfg target) :=
  ⟨_, rfl, rfl⟩

/-- The upper limit is a length, so the clamped target fits its register (R99). -/
theorem toNat_ofNat_clampedTarget (c : CfgRegs) (target : Data) :
    (BitVec.ofNat 17 (clampedTarget c target)).toNat = clampedTarget c target := by
  have hle : clampedTarget c target ≤ c.lmax.toNat := clampNat_le _ _ _
  have hmax := c.lmax.isLt
  rw [BitVec.toNat_ofNat, Nat.mod_eq_of_lt (by omega)]

theorem clampNat_mem {x lo hi : Nat} (h : lo ≤ hi) : lo ≤ clampNat x lo hi ∧ clampNat x lo hi ≤ hi :=
  ⟨le_min (le_max_right x lo) h, clampNat_le x lo hi⟩

theorem clampNat_of_lt {x lo hi : Nat} (h : hi < lo) : clampNat x lo hi = hi :=
  min_eq_right (h.le.trans (le_max_right x lo))

/-- Settles O32: SET_TARGET stores the clamped operand, which the upper limit keeps in 17 bits; where it lies
is a property of the clamp, by the order of the limits. -/
theorem targetClampStaysWithinLimits : Obligations.TargetClampStaysWithinLimits := by
  intro target s
  obtain ⟨t, hexec, hstored⟩ := exec_setTarget_stores target s
  have htarget : t.target.toNat = clampNat target.toNat s.cfg.lmin.toNat s.cfg.lmax.toNat := by
    rw [hstored, toNat_ofNat_clampedTarget, clampedTarget]
  refine ⟨t, hexec, htarget, Nat.le_of_lt_succ t.target.isLt, fun hordered => ?inside,
    fun hcrossed => ?upper⟩
  case inside => exact htarget ▸ clampNat_mem hordered
  case upper => exact BitVec.eq_of_toNat_eq (htarget.trans (clampNat_of_lt hcrossed))

/-! The error of a tick (R107). -/

/-- The length a tick computes is at most the two links together (R89). -/
theorem kin_length_le (c : CfgRegs) (raw : AngleCode) : (kin c raw).1.toNat ≤ 131070 := by
  have hlen : ((kin c raw).1.toNat : Int) ≤ c.l1.toNat + c.l2.toNat :=
    (lengthAt_bounds c (jointOf c raw)).2
  have h1 := c.l1.isLt
  have h2 := c.l2.isLt
  omega

/-- Settles O37: the length stays one below the largest 17-bit number, which is what the lower bound needs. -/
theorem errorIsTargetMinusLength : Obligations.ErrorIsTargetMinusLength := by
  intro c raw target
  have hlen := kin_length_le c raw
  have htarget := target.isLt
  have herror : lengthError target (kin c raw).1 = (target.toNat : Int) - (kin c raw).1.toNat := rfl
  exact ⟨herror, by omega, by omega⟩

/-! The rounding (R109). -/

theorem roundedMagnitude_eq_div (p : Int) : roundedMagnitude p = (p.natAbs + 2 ^ 27) / 2 ^ 28 :=
  Nat.shiftRight_eq_div_pow _ _

@[simp] theorem roundedMagnitude_neg (p : Int) : roundedMagnitude (-p) = roundedMagnitude p := by
  rw [roundedMagnitude, Int.natAbs_neg, roundedMagnitude]

/-- The magnitude is the nearest integer to `|p| / 2^28`, a tie going up. -/
theorem roundedMagnitude_nearest (p : Int) :
    2 ^ 28 * (roundedMagnitude p : Int) ≤ |p| + 2 ^ 27 ∧
    |p| + 2 ^ 27 < 2 ^ 28 * ((roundedMagnitude p : Int) + 1) := by
  rw [roundedMagnitude_eq_div, Int.abs_eq_natAbs]
  omega

theorem roundedDuty_of_nonneg {p : Int} (h : 0 ≤ p) : roundedDuty p = roundedMagnitude p := if_pos h

theorem roundedDuty_of_neg {p : Int} (h : p < 0) : roundedDuty p = -(roundedMagnitude p : Int) :=
  if_neg (not_le.2 h)

@[simp] theorem roundedDuty_zero : roundedDuty 0 = 0 := by decide

/-- The rounding is symmetric about 0 (R109). -/
theorem roundedDuty_neg (p : Int) : roundedDuty (-p) = -roundedDuty p := by
  rcases lt_trichotomy p 0 with hneg | rfl | hpos
  · rw [roundedDuty_of_nonneg (by omega), roundedDuty_of_neg hneg, roundedMagnitude_neg, neg_neg]
  · rw [neg_zero, roundedDuty_zero, neg_zero]
  · rw [roundedDuty_of_neg (by omega), roundedDuty_of_nonneg hpos.le, roundedMagnitude_neg]

/-- Settles O38: the magnitude is the nearest integer to `|p| / 2^28`, and the duty is it with the sign of
`p`. -/
theorem roundingIsHalfAwayFromZero : Obligations.RoundingIsHalfAwayFromZero := by
  intro p
  obtain ⟨hlow, hhigh⟩ := roundedMagnitude_nearest p
  constructor
  · intro hp
    rw [abs_of_nonneg hp] at hlow hhigh
    rw [roundedDuty_of_nonneg hp]
    exact ⟨by omega, hlow, hhigh⟩
  · intro hp
    rw [abs_of_neg hp] at hlow hhigh
    rw [roundedDuty_of_neg hp]
    exact ⟨by omega, by omega, by omega⟩

/-! The law (R108, R110, R111, R115). -/

/-- The widths of the three factors add up to the width of the product (R111). -/
theorem abs_lawProduct_lt (kp : BitVec 24) (fs : Level) {e : Int} (h : |e| < 2 ^ 17) :
    |lawProduct kp fs e| < 2 ^ 56 := by
  have hkp : (kp.toNat : Int) ≤ 2 ^ 24 := by have := kp.isLt; omega
  have hfs : (fs.toNat : Int) ≤ 2 ^ 15 := by have := fs.isLt; omega
  calc |lawProduct kp fs e| = kp.toNat * fs.toNat * |e| := by
        rw [lawProduct, abs_mul, abs_mul, Nat.abs_cast, Nat.abs_cast]
    _ ≤ 2 ^ 24 * 2 ^ 15 * |e| := by gcongr
    _ < 2 ^ 24 * 2 ^ 15 * 2 ^ 17 := by gcongr
    _ = 2 ^ 56 := by norm_num

theorem roundedMagnitude_le {p : Int} (h : |p| < 2 ^ 56) : roundedMagnitude p ≤ 2 ^ 28 := by
  have hlow := (roundedMagnitude_nearest p).1
  omega

theorem pLaw_bounds (kp : BitVec 24) (fs : Level) (e : Int) :
    -(fs.toNat : Int) ≤ pLaw kp fs e ∧ pLaw kp fs e ≤ fs.toNat :=
  clampDuty_bounds fs _

/-- Settles O39: the product's width bounds the magnitude, and the clamp alone bounds the duty. -/
theorem lawStaysWithinFullScale : Obligations.LawStaysWithinFullScale := by
  intro kp fs e hlow hhigh
  have hproduct := abs_lawProduct_lt kp fs (abs_lt.2 ⟨hlow, hhigh⟩)
  obtain ⟨hfrom, hto⟩ := pLaw_bounds kp fs e
  refine ⟨hproduct, roundedMagnitude_le hproduct, hfrom, hto, Nat.le_of_lt_succ fs.isLt,
    toInt_ofInt_of_within hfrom hto, ?off⟩
  case off =>
    rintro rfl
    exact le_antisymm hto hfrom

theorem clampDuty_neg (fs : Level) (d : Int) : clampDuty fs (-d) = -clampDuty fs d := by
  unfold clampDuty clampInt; omega

theorem lawProduct_neg (kp : BitVec 24) (fs : Level) (e : Int) :
    lawProduct kp fs (-e) = -lawProduct kp fs e := mul_neg _ _

theorem pLaw_neg (kp : BitVec 24) (fs : Level) (e : Int) : pLaw kp fs (-e) = -pLaw kp fs e := by
  rw [pLaw, lawProduct_neg, roundedDuty_neg, clampDuty_neg, pLaw]

theorem pLaw_zero (kp : BitVec 24) (fs : Level) : pLaw kp fs 0 = 0 := by
  rw [pLaw, lawProduct, mul_zero, roundedDuty_zero, clampDuty_zero]

/-- A product that is not 0 has a full scale of at least 1, within which a duty of 1 lies. -/
theorem pLaw_of_half_count {kp : BitVec 24} {fs : Level} {e : Int} (h : lawProduct kp fs e = 2 ^ 27) :
    pLaw kp fs e = 1 := by
  have hfs : fs.toNat ≠ 0 := by
    intro hzero
    simp [lawProduct, hzero] at h
  have hround : roundedDuty (2 ^ 27) = 1 := by decide
  rw [pLaw, h, hround]
  exact clampDuty_of_within (by omega) (by omega)

/-- Settles O40: product, rounding and clamp are each odd, so the negative half count follows from the
positive one. -/
theorem lawIsOddAndRoundsHalfUpToOne : Obligations.LawIsOddAndRoundsHalfUpToOne := by
  intro kp fs e
  refine ⟨?formula, pLaw_neg kp fs e, pLaw_zero kp fs, pLaw_of_half_count, fun h => ?negative⟩
  case formula =>
    dsimp only
    rw [← roundedMagnitude_eq_div]
    rfl
  case negative =>
    have hpositive : lawProduct kp fs (-e) = 2 ^ 27 := by
      rw [lawProduct_neg, lawProduct, h, neg_neg]
    rw [← neg_neg e, pLaw_neg, pLaw_of_half_count hpositive]

end Sys2Proof.Machine

/-! The motor driver: what SetDuty leaves in the duty and on the two channels, as numbers
(42_motor_driver.md R119, R121, R122). -/

namespace Sys2Proof.Machine

/-! The three registers SetDuty writes. The clamp keeps the duty within a full scale of 15 bits, so none of
them truncates. -/

theorem toInt_setDuty_duty (fs : Level) (d : Int) (s : State) :
    (setDuty fs d s).duty.toInt = clampDuty fs d := by
  obtain ⟨hlow, hhigh⟩ := clampDuty_bounds fs d
  rw [setDuty_duty, toInt_ofInt_of_within hlow hhigh]

/-- Channel A carries the positive part of the clamped duty (R119). -/
theorem toNat_setDuty_pwmA (fs : Level) (d : Int) (s : State) :
    ((setDuty fs d s).pwmA.toNat : Int) = max (clampDuty fs d) 0 := by
  rw [setDuty_pwmA]
  split
  case isTrue hpos => rw [toNat_ofInt_of_within hpos.le (clampDuty_bounds fs d).2, max_eq_left hpos.le]
  case isFalse hpos => exact (max_eq_right (not_lt.1 hpos)).symm

/-- Channel B carries the negative part of the clamped duty (R119). -/
theorem toNat_setDuty_pwmB (fs : Level) (d : Int) (s : State) :
    ((setDuty fs d s).pwmB.toNat : Int) = max (-clampDuty fs d) 0 := by
  have hhigh : -clampDuty fs d ≤ fs.toNat := neg_le.1 (clampDuty_bounds fs d).1
  rw [setDuty_pwmB]
  split
  case isTrue hpos => exact (max_eq_right (neg_nonpos.2 hpos.le)).symm
  case isFalse hpos =>
    have hlow : 0 ≤ -clampDuty fs d := neg_nonneg.2 (not_lt.1 hpos)
    rw [toNat_ofInt_of_within hlow hhigh, max_eq_left hlow]

/-! When each of them is 0. -/

theorem setDuty_duty_eq_zero_iff (fs : Level) (d : Int) (s : State) :
    (setDuty fs d s).duty = 0#16 ↔ clampDuty fs d = 0 := by
  rw [← BitVec.toInt_inj, toInt_setDuty_duty, BitVec.toInt_zero]

theorem setDuty_pwmA_eq_zero_iff (fs : Level) (d : Int) (s : State) :
    (setDuty fs d s).pwmA = 0#15 ↔ clampDuty fs d ≤ 0 := by
  rw [← BitVec.toNat_inj, ← Int.natCast_inj, toNat_setDuty_pwmA]
  exact max_eq_right_iff

theorem setDuty_pwmB_eq_zero_iff (fs : Level) (d : Int) (s : State) :
    (setDuty fs d s).pwmB = 0#15 ↔ 0 ≤ clampDuty fs d := by
  rw [← BitVec.toNat_inj, ← Int.natCast_inj, toNat_setDuty_pwmB]
  exact max_eq_right_iff.trans neg_nonpos

/-- Settles O42: the sign of the clamped duty says which of its parts, positive on channel A and negative on
channel B, is the duty's magnitude and which is 0. -/
theorem setDutyMapsTheSignToAChannel : Obligations.SetDutyMapsTheSignToAChannel := by
  intro fs d s dc t
  refine ⟨toInt_setDuty_duty fs d s, fun hpos => ⟨?driveA, ?offB⟩, fun hnonpos => ⟨?offA, ?driveB⟩, rfl⟩
  case driveA => exact (toNat_setDuty_pwmA fs d s).trans (max_eq_left hpos.le)
  case offB => exact (setDuty_pwmB_eq_zero_iff fs d s).2 hpos.le
  case offA => exact (setDuty_pwmA_eq_zero_iff fs d s).2 hnonpos
  case driveB => exact (toNat_setDuty_pwmB fs d s).trans (max_eq_left (neg_nonneg.2 hnonpos))

/-- Settles O43: channel A is off for a duty of at most 0 and channel B for one of at least 0, so both are
off for 0 alone. -/
theorem atMostOneChannelIsDriven : Obligations.AtMostOneChannelIsDriven := by
  intro fs d s
  refine ⟨setDuty_pwmA_or_pwmB_zero fs d s, ?bothOff, ?zeroDuty⟩
  case bothOff =>
    rw [setDuty_pwmA_eq_zero_iff, setDuty_pwmB_eq_zero_iff, setDuty_duty_eq_zero_iff]
    exact le_antisymm_iff.symm
  case zeroDuty =>
    rw [setDuty_zero]
    exact ⟨rfl, rfl, rfl⟩

end Sys2Proof.Machine

/-! Writing the configuration space (43_register_access.md R127, R128), and what the housekeeping commands
leave alone (R125). -/

namespace Sys2Proof.Machine

/-! A configuration register read after a write. -/

/-- No configuration register is wider than DATA (R128). -/
theorem CfgReg.width_le (r : CfgReg) : r.width ≤ 32 := by
  cases r <;> decide

/-- The written register reads as the DATA bits of its width, zero-extended, and every other register reads
as before (R127, R128). Only `minPeriod` takes DATA whole. -/
theorem readCfg_writeCfg (q r : CfgReg) (data : Data) (c : CfgRegs) :
    readCfg q (writeCfg r data c) =
      if q = r then (data.setWidth r.width).setWidth 32 else readCfg q c := by
  cases r with
  | minPeriod =>
    cases q with
    | minPeriod => simp [readCfg, writeCfg, CfgReg.width]
    | ctrlCfg | l1 | l2 | offset | anchor | lmin | lmax | kp | dutyFs | irqMask => rfl
  | ctrlCfg | l1 | l2 | offset | anchor | lmin | lmax | kp | dutyFs | irqMask => cases q <;> rfl

theorem toNat_readCfg_writeCfg_same (r : CfgReg) (data : Data) (c : CfgRegs) :
    (readCfg r (writeCfg r data c)).toNat = data.toNat % 2 ^ r.width := by
  rw [readCfg_writeCfg, if_pos rfl, BitVec.toNat_setWidth_of_le r.width_le, BitVec.toNat_setWidth]

theorem readCfg_writeCfg_of_ne {q r : CfgReg} (h : q ≠ r) (data : Data) (c : CfgRegs) :
    readCfg q (writeCfg r data c) = readCfg q c := by
  rw [readCfg_writeCfg, if_neg h]

/-! CFG_WRITE to a register that is not locked. -/

/-- The lock holds while Enabled and spares IRQ_MASK (R127, R136). -/
theorem cfgLocked_eq_false_iff (r : CfgReg) (s : State) :
    cfgLocked r s = false ↔ s.enabled = false ∨ r = .irqMask := by
  simp [cfgLocked, Decidable.imp_iff_not_or]

/-- The lock by the index, of which 10 is IRQ_MASK (R29, R127). -/
theorem cfgLocked_eq_false_of_cfgRegAt {idx : Idx} {r : CfgReg} {s : State}
    (hr : cfgRegAt idx = some r) (h : s.enabled = false ∨ idx = 10#4) : cfgLocked r s = false := by
  rw [cfgLocked_eq_false_iff]
  refine h.imp_right ?_
  rintro rfl
  exact (Option.some.inj hr).symm

theorem exec_cfgWrite_of_unlocked {idx : Idx} {r : CfgReg} {s : State} (hr : cfgRegAt idx = some r)
    (hl : cfgLocked r s = false) (data : Data) :
    exec (.cfgWrite idx data) s = .next (respond .ok 0#32 { s with cfg := writeCfg r data s.cfg }) := by
  simp [exec, execCfgWrite, hr, hl]

/-- Settles O12: each row of R128 names its register and that register's width, and an unlocked CFG_WRITE
is the answer OK and `writeCfg`. -/
theorem cfgWriteKeepsTheLowBits : Obligations.CfgWriteKeepsTheLowBits := by
  intro p hp
  have hrow : cfgRegAt p.1 = some p.2.1 ∧ p.2.1.width = p.2.2 := by
    revert p
    decide
  obtain ⟨hreg, hwidth⟩ := hrow
  intro data s hopen
  have hunlocked := cfgLocked_eq_false_of_cfgRegAt hreg hopen
  refine ⟨_, exec_cfgWrite_of_unlocked hreg hunlocked data, ?written, fun r hne => ?others, rfl⟩
  case written => exact hwidth ▸ toNat_readCfg_writeCfg_same p.2.1 data s.cfg
  case others => exact readCfg_writeCfg_of_ne hne data s.cfg

/-! The frame of the housekeeping commands. -/

/-- Settles O19: of the effects a command can have, a housekeeping command has only a written configuration,
cleared flags, an answer, or an answer with an error flag. -/
theorem housekeepingTouchesOnlyRegistersAndFlags :
    Obligations.HousekeepingTouchesOnlyRegistersAndFlags := by
  intro i s hi
  obtain ⟨t, ht⟩ := exec_next i s
  refine ⟨t, ht, ?_⟩
  rcases exec_cases ht with
    ⟨_, rfl, _⟩ | ⟨rfl, _⟩ | ⟨rfl, _⟩ | ⟨_, rfl, _⟩ | hwrite | hclear | hanswer | herror
  · exact False.elim hi
  · exact False.elim hi
  · exact False.elim hi
  · exact False.elim hi
  · obtain ⟨_, _, _, _, _, _, rfl⟩ := hwrite
    rfl
  · obtain ⟨_, _, rfl⟩ := hclear
    rfl
  · obtain ⟨_, _, _, rfl⟩ := hanswer
    rfl
  · obtain ⟨_, _, _, rfl⟩ := herror
    rfl

end Sys2Proof.Machine

/-! The sticky flags (60_exceptions.md R140) and the locked configuration (R136). Positions 2 to 4 of a cycle
read no flag and only ever set some. Said as one equation per operation, `op (raiseFlags m s) =
raiseFlags m (op s)`, this gives both halves of R140: a flag that is set stays set, and what the cycle sets
does not depend on the flags a CLEAR_FLAGS left at position 1. -/

namespace Sys2Proof.Machine

/-! Setting flags. -/

/-- The flags of `m` set beside those of `s`: `setFlag` for any number of flags. -/
def raiseFlags (m : FlagBits) (s : State) : State := { s with flags := s.flags ||| m }

theorem setFlag_eq_raiseFlags (f : Flag) (s : State) : setFlag f s = raiseFlags f.mask s := rfl

@[simp] theorem raiseFlags_flags (m : FlagBits) (s : State) :
    (raiseFlags m s).flags = s.flags ||| m := rfl

/-- Raising the flags that are already set changes nothing. -/
theorem raiseFlags_flags_self (s : State) : raiseFlags s.flags s = s := by
  simp [raiseFlags]

/-- The mask of a flag has the bit of its number alone (R35). -/
theorem Flag.getLsbD_mask (f : Flag) {n : Nat} (hn : n < 6) :
    f.mask.getLsbD n = decide (n = f.position) := by
  revert n
  cases f <;> decide

/-- CLEAR_FLAGS keeps a flag unless DATA has its bit (R131). -/
theorem getLsbD_clearedFlags (flags : FlagBits) (mask : Data) {n : Nat} (hn : n < 6) :
    (clearedFlags flags (flagMask mask)).getLsbD n = (flags.getLsbD n && !mask.getLsbD n) := by
  simp [clearedFlags, flagMask, hn]

/-! Operations that set flags and read none. -/

/-- The operation `op` reads no flag and clears none: flags set before it are the flags set after it, beside
those that `op` sets itself. -/
def OnlySetsFlags (op : State → State) : Prop :=
  ∀ (m : FlagBits) (s : State), op (raiseFlags m s) = raiseFlags m (op s)

/-- Such an operation keeps every flag that is set. -/
theorem OnlySetsFlags.keeps_flag {op : State → State} (h : OnlySetsFlags op) {s : State} {n : Nat}
    (hset : s.flags.getLsbD n = true) : (op s).flags.getLsbD n = true := by
  have hop : op s = raiseFlags s.flags (op s) := by rw [← h, raiseFlags_flags_self]
  rw [hop, raiseFlags_flags, BitVec.getLsbD_or, hset, Bool.or_true]

theorem OnlySetsFlags.comp {f g : State → State} (hf : OnlySetsFlags f) (hg : OnlySetsFlags g) :
    OnlySetsFlags (f ∘ g) := by
  intro m s
  simp only [Function.comp_apply, hg m, hf m]

/-- A choice between two such operations is one, when its condition reads no flag. -/
theorem OnlySetsFlags.ite {p : State → Prop} [DecidablePred p] {f g : State → State}
    (hp : ∀ m s, p (raiseFlags m s) ↔ p s) (hf : OnlySetsFlags f) (hg : OnlySetsFlags g) :
    OnlySetsFlags fun s => if p s then f s else g s := by
  intro m s
  by_cases h : p s
  · simp [hp, h, hf m s]
  · simp [hp, h, hg m s]

/-- The order in which flags are set does not matter. -/
theorem onlySetsFlags_setFlag (f : Flag) : OnlySetsFlags (setFlag f) := by
  intro m s
  simp only [setFlag_eq_raiseFlags, raiseFlags, BitVec.or_assoc, BitVec.or_comm m]

theorem onlySetsFlags_abortTick : OnlySetsFlags abortTick := by
  intro m s
  cases hf : s.tickFlight with
  | none => rw [abortTick_none hf, abortTick_none (s := raiseFlags m s) hf]
  | some f =>
    rw [abortTick_some hf, abortTick_some (s := raiseFlags m s) hf, ← onlySetsFlags_setFlag]
    rfl

/-- A stop sets at most TICK_ABORTED (R101, R164). -/
theorem onlySetsFlags_eStopEffect : OnlySetsFlags eStopEffect :=
  fun m s => onlySetsFlags_abortTick m (setDuty s.cfg.dutyFs 0 { s with enabled := false })

/-- A driven duty sets at most KIN_FAULT (R106). -/
theorem onlySetsFlags_driveDuty (snap : Snapshot) : OnlySetsFlags (driveDuty snap) := by
  intro m s
  unfold driveDuty
  dsimp only
  split
  · split
    · rw [onlySetsFlags_setFlag]; rfl
    · exact onlySetsFlags_setFlag .kinFault m s
  · rfl

theorem onlySetsFlags_applyTick (snap : Snapshot) : OnlySetsFlags (applyTick snap) := by
  intro m s
  rw [applyTick_eq, applyTick_eq, ← onlySetsFlags_driveDuty]
  rfl

/-- An accepted tick sets what its application sets when it is applied at once, and no flag when it goes in
flight (R160). -/
theorem onlySetsFlags_acceptTick (now : Time) : OnlySetsFlags (acceptTick now) := by
  intro m s
  rcases acceptTick_cases now s with ⟨hlat, h⟩ | ⟨hlat, h⟩
  · have hraised : acceptTick now (raiseFlags m s) = _ := if_pos hlat
    rw [h, hraised, ← onlySetsFlags_applyTick]
    rfl
  · have hraised : acceptTick now (raiseFlags m s) = _ := if_neg hlat
    rw [h, hraised]
    rfl

/-- A tick request sets at most TICK_OVERRUN or the flags of its tick (R102). -/
theorem onlySetsFlags_performTick (v : TickVerdict) (now : Time) :
    OnlySetsFlags (performTick v now) := by
  cases v with
  | dropped => exact onlySetsFlags_setFlag .tickOverrun
  | disabled => exact fun _ _ => rfl
  | tooSoon => exact fun _ _ => rfl
  | accepted => exact onlySetsFlags_acceptTick now

theorem onlySetsFlags_occupyWithQuery : OnlySetsFlags occupyWithQuery :=
  .ite (p := fun s => s.build.extraLatency = 0) (fun _ _ => Iff.rfl) (fun _ _ => rfl) fun _ _ => rfl

theorem onlySetsFlags_answerQuery (q : QueryFlight) : OnlySetsFlags (answerQuery q) :=
  .ite (p := fun _ => q.cancelled = true) (fun _ _ => Iff.rfl) (fun _ _ => rfl) fun _ _ => rfl

/-! Positions 2 to 4 of a cycle (R158). The checks of a tick request read no flag either (R102). -/

theorem onlySetsFlags_stopPin : OnlySetsFlags stopPin :=
  .ite (p := fun s => s.pins.estopReq = true) (fun _ _ => Iff.rfl) onlySetsFlags_eStopEffect
    fun _ _ => rfl

theorem onlySetsFlags_tickPort (taken : Bool) : OnlySetsFlags (tickPort taken) :=
  .ite (p := fun s => s.pins.tickValid = true) (fun _ _ => Iff.rfl)
    (fun m s => onlySetsFlags_performTick (tickVerdict taken s.pins.tickNow s) s.pins.tickNow m s)
    fun _ _ => rfl

theorem commitTick_of_due {s : State} {f : TickFlight} (hf : s.tickFlight = some f)
    (hdue : f.commitAt = s.cycle) : commitTick s = applyTick f.snap { s with tickFlight := none } := by
  simp [commitTick, hf, hdue]

theorem commitTick_of_not_due {s : State} (h : ∀ f, s.tickFlight = some f → f.commitAt ≠ s.cycle) :
    commitTick s = s := by
  rcases commitTick_cases s with ⟨f, hf, hdue, _⟩ | ⟨_, hsame⟩
  · exact absurd hdue (h f hf)
  · exact hsame

theorem onlySetsFlags_commitTick : OnlySetsFlags commitTick := by
  intro m s
  rcases commitTick_cases s with ⟨f, hf, hdue, h⟩ | ⟨hnot, h⟩
  · rw [h, commitTick_of_due (s := raiseFlags m s) hf hdue, ← onlySetsFlags_applyTick]
    rfl
  · rw [h, commitTick_of_not_due (s := raiseFlags m s) hnot]

theorem commitQuery_of_due {s : State} {q : QueryFlight} (hq : s.queryFlight = some q)
    (hdue : q.commitAt = s.cycle) : commitQuery s = answerQuery q { s with queryFlight := none } := by
  simp [commitQuery, hq, hdue]

theorem commitQuery_of_not_due {s : State} (h : ∀ q, s.queryFlight = some q → q.commitAt ≠ s.cycle) :
    commitQuery s = s := by
  rcases commitQuery_cases s with ⟨q, hq, hdue, _⟩ | ⟨_, hsame⟩
  · exact absurd hdue (h q hq)
  · exact hsame

theorem onlySetsFlags_commitQuery : OnlySetsFlags commitQuery := by
  intro m s
  rcases commitQuery_cases s with ⟨q, hq, hdue, h⟩ | ⟨hnot, h⟩
  · rw [h, commitQuery_of_due (s := raiseFlags m s) hq hdue, ← onlySetsFlags_answerQuery]
    rfl
  · rw [h, commitQuery_of_not_due (s := raiseFlags m s) hnot]

/-- After the command port a cycle only sets flags. -/
theorem onlySetsFlags_afterCommand (taken : Bool) : OnlySetsFlags (afterCommand taken) :=
  (onlySetsFlags_commitQuery.comp onlySetsFlags_commitTick).comp
    ((onlySetsFlags_tickPort taken).comp onlySetsFlags_stopPin)

/-! Position 1: a set flag over the command port. -/

/-- A command keeps a set flag, but for a CLEAR_FLAGS whose mask has its bit (R140). -/
theorem exec_keeps_flag {i : Instr} {s c : State} {n : Nat} (hn : n < 6)
    (hset : s.flags.getLsbD n = true) (h : exec i s = .next c)
    (hmask : ∀ mask, i = .clearFlags mask → mask.getLsbD n = false) :
    c.flags.getLsbD n = true := by
  rcases exec_cases h with ⟨_, _, rfl | rfl⟩ | ⟨_, rfl⟩ | ⟨_, rfl | ⟨_, rfl⟩⟩ | ⟨now, _, rfl⟩ |
    ⟨_, _, _, _, _, _, rfl⟩ | ⟨mask, hclear, rfl⟩ | ⟨_, _, _, rfl⟩ | ⟨f, _, _, rfl⟩
  · exact hset
  · exact (onlySetsFlags_setFlag .targetClamped).keeps_flag hset
  · exact onlySetsFlags_eStopEffect.keeps_flag hset
  · exact hset
  · exact onlySetsFlags_occupyWithQuery.keeps_flag hset
  · exact (onlySetsFlags_performTick _ now).keeps_flag hset
  · exact hset
  · simp [getLsbD_clearedFlags _ _ hn, hset, hmask mask hclear]
  · exact hset
  · exact (onlySetsFlags_setFlag f).keeps_flag hset

theorem commandPort_keeps_flag {s c : State} {n : Nat} (hn : n < 6)
    (hset : s.flags.getLsbD n = true) (h : commandPort s = .next c)
    (hmask : ∀ mask, s.accepts = true → decode s.pins.cmdWord = .command (.clearFlags mask) →
      mask.getLsbD n = false) :
    c.flags.getLsbD n = true := by
  rcases commandPort_cases s with ⟨_, hp⟩ | ⟨_, _, _, hp⟩ | ⟨i, _, haccepts, hdecode, hexec, hp⟩ <;>
    obtain rfl := Host.Outcome.next.inj (hp.symm.trans h)
  · exact hset
  · exact (onlySetsFlags_setFlag .illegalCmd).keeps_flag hset
  · exact exec_keeps_flag hn hset hexec fun mask hi => hmask mask haccepts (hi ▸ hdecode)

/-! The cycle of a CLEAR_FLAGS. -/

/-- The state that an accepted CLEAR_FLAGS leaves for positions 2 to 4 of its cycle (R131). -/
def afterClearFlags (mask : Data) (s : State) : State :=
  respond .ok 0#32 { beginCycle s with flags := clearedFlags s.flags (flagMask mask) }

theorem step_of_clearFlags {s : State} {mask : Data} (haccepts : s.accepts = true)
    (hdecode : decode s.pins.cmdWord = .command (.clearFlags mask)) :
    step s = .next (closeCycle s
      (afterCommand (commandTakesTick (beginCycle s)) (afterClearFlags mask s))) := by
  obtain ⟨hrst, _, _⟩ := of_accepts haccepts
  have hport : commandPort (beginCycle s) = .next (afterClearFlags mask s) :=
    (commandPort_of_accepts (s := beginCycle s) haccepts).trans (perform_of_command hdecode _)
  exact step_cycle hrst hport

/-- A CLEAR_FLAGS leaves what it leaves of no flags, and beside it the old flags outside its mask. -/
theorem afterClearFlags_eq_raiseFlags (mask : Data) (s : State) :
    afterClearFlags mask s =
      raiseFlags (clearedFlags s.flags (flagMask mask)) (afterClearFlags mask { s with flags := 0#6 }) := by
  simp [afterClearFlags, raiseFlags, clearedFlags, respond, beginCycle]

/-- Positions 2 to 4 set the same flags after a CLEAR_FLAGS whatever flags it left. -/
theorem afterCommand_afterClearFlags_flags (taken : Bool) (mask : Data) (s : State) :
    (afterCommand taken (afterClearFlags mask s)).flags =
      (afterCommand taken (afterClearFlags mask { s with flags := 0#6 })).flags |||
        clearedFlags s.flags (flagMask mask) := by
  rw [afterClearFlags_eq_raiseFlags, onlySetsFlags_afterCommand, raiseFlags_flags]

/-- Settles O20: the parts of a cycle keep a set flag one after the other, and after an accepted CLEAR_FLAGS
the other positions commute with raising the flags it left. -/
theorem flagsAreStickyAndSetWins : Obligations.FlagsAreStickyAndSetWins := by
  refine ⟨rfl, fun f s => ⟨fun n hn => ?setFlag, rfl⟩, fun s n hn hrst hset hmask => ?sticky,
    fun s m haccepts hdecode => ?setWins⟩
  case setFlag => rw [setFlag_flags, BitVec.getLsbD_or, f.getLsbD_mask hn]
  case sticky =>
    obtain ⟨c, hc⟩ := commandPort_next (beginCycle s)
    have hcommand : c.flags.getLsbD n = true :=
      commandPort_keeps_flag (s := beginCycle s) hn hset hc hmask
    exact ⟨_, step_cycle hrst hc, (onlySetsFlags_afterCommand _).keeps_flag hcommand⟩
  case setWins =>
    refine ⟨_, _, step_of_clearFlags haccepts hdecode,
      step_of_clearFlags (s := { s with flags := 0#6 }) haccepts hdecode, fun n hn => ?_⟩
    have htaken : commandTakesTick (beginCycle { s with flags := 0#6 }) =
        commandTakesTick (beginCycle s) := rfl
    rw [closeCycle_flags, closeCycle_flags, afterCommand_afterClearFlags_flags, htaken,
      BitVec.getLsbD_or, getLsbD_clearedFlags _ _ hn, Bool.or_comm]

/-! CFG_WRITE to a locked register (R136). -/

/-- Every index up to 9 names a register that the lock covers (R18, R127). -/
theorem cfgRegAt_of_le_nine {idx : Idx} (h : idx.toNat ≤ 9) :
    cfgRegAt idx ≠ none ∧ cfgRegAt idx ≠ some .irqMask := by
  revert idx
  decide

theorem exec_cfgWrite_of_locked {idx : Idx} {r : CfgReg} {s : State} (hr : cfgRegAt idx = some r)
    (hl : cfgLocked r s = true) (data : Data) :
    exec (.cfgWrite idx data) s = .next (answerRejected s) := by
  simp [exec, execCfgWrite, hr, hl]

/-- REJECTED is CFG_REJECTED and the response register, nothing else (R136). -/
theorem answerRejected_eq (s : State) :
    answerRejected s =
      { s with flags := s.flags ||| 0b010000#6, rspValid := true, rspStatus := 2#2, rspData := 0#32 } :=
  rfl

/-- Settles O13: an index up to 9 names a register other than IRQ_MASK, which is locked while Enabled. -/
theorem cfgWriteWhileEnabledIsRejected : Obligations.CfgWriteWhileEnabledIsRejected := by
  intro idx data s hidx henabled
  obtain ⟨hmapped, hmask⟩ := cfgRegAt_of_le_nine hidx
  obtain ⟨r, hr⟩ := Option.ne_none_iff_exists'.1 hmapped
  have hne : r ≠ .irqMask := by
    rintro rfl
    exact hmask hr
  have hlocked : cfgLocked r s = true := by simp [cfgLocked, henabled, hne]
  rw [exec_cfgWrite_of_locked hr hlocked, answerRejected_eq]

end Sys2Proof.Machine

/-! An edge with `rst = 1` (70_reset_and_hazards.md R152 to R154): the levels of the command port in that
cycle, and the state after it. -/

namespace Sys2Proof.Machine

/-! The command port while `rst = 1`. -/

/-- The pin alone holds `cmd_ready` at 0, whatever the unit owes (R61, R155). -/
theorem cmdReady_of_rst {s : State} (hrst : s.pins.rst = true) : s.cmdReady = false := by
  simp [State.cmdReady, hrst]

/-- While `rst = 1` the output ports are the registered ones with the command port gated (R152, R154). -/
theorem outputs_of_rst {s : State} (hrst : s.pins.rst = true) :
    s.outputs = s.registeredOutputs.underReset := if_pos hrst

/-- A response due in the cycle of the reset is not presented (R154). -/
theorem outputs_rspValid_of_rst {s : State} (hrst : s.pins.rst = true) : s.outputs.rspValid = false := by
  rw [outputs_of_rst hrst, PortOutputs.underReset]

/-! The unit with nothing in flight (R42). -/

theorem busy_of_nothing_in_flight {s : State} (htick : s.tickFlight = none)
    (hquery : s.queryFlight = none) : s.busy = false := by
  simp [State.busy, State.queryOccupies, htick, hquery]

theorem qcancel_of_no_query {s : State} (hquery : s.queryFlight = none) : s.qcancel = false := by
  simp [State.qcancel, hquery]

/-! The state after the edge: it reads the build and no other register of the state before (R153). -/

@[simp] theorem resetCycle_build (s : State) : (resetCycle s).build = s.build := rfl

@[simp] theorem resetCycle_cfg (s : State) : (resetCycle s).cfg = CfgRegs.reset s.build := rfl

@[simp] theorem resetCycle_tickFlight (s : State) : (resetCycle s).tickFlight = none := rfl

@[simp] theorem resetCycle_queryFlight (s : State) : (resetCycle s).queryFlight = none := rfl

@[simp] theorem resetCycle_busy (s : State) : (resetCycle s).busy = false :=
  busy_of_nothing_in_flight (resetCycle_tickFlight s) (resetCycle_queryFlight s)

@[simp] theorem resetCycle_qcancel (s : State) : (resetCycle s).qcancel = false :=
  qcancel_of_no_query (resetCycle_queryFlight s)

/-- Settles O9: the pin gates the command port in its own cycle, and the edge leaves `resetCycle`, whose
registers are those of `State.resetWith` for the build. -/
theorem resetPinRestoresEverything : Obligations.ResetPinRestoresEverything := by
  intro s hrst
  refine ⟨cmdReady_of_rst hrst, outputs_rspValid_of_rst hrst, resetCycle s, step_reset hrst, ?_⟩
  rw [resetCycle_cfg, resetCycle_build, resetCycle_busy, resetCycle_qcancel]
  simp [CfgRegs.reset, resetCycle, State.resetWith]

end Sys2Proof.Machine

/-! The rules that the statements about whole cycles share (70_reset_and_hazards.md R158 to R164): the latency,
the checks of a tick request, what an applied tick drives, and what each position of a cycle does to the tick
and the QUERY_LENGTH in flight. -/

namespace Sys2Proof.Machine

open Sys2Proof.Safety

/-! The latency (R6, R160). -/

theorem tLat_eq_one_iff (s : State) : s.build.tLat = 1 ↔ s.build.extraLatency = 0 := by
  simp [Config.Params.tLat]

theorem one_lt_tLat_iff (s : State) : 1 < s.build.tLat ↔ s.build.extraLatency ≠ 0 := by
  simp [Config.Params.tLat, Nat.pos_iff_ne_zero]

/-- With `T_LAT > 1` nothing accepted in a cycle commits in it (R160). -/
theorem commitCycle_ne_cycle {s : State} (h : s.build.extraLatency ≠ 0) : s.commitCycle ≠ s.cycle := by
  unfold State.commitCycle
  omega

/-! The checks of a tick request (R102 to R104). -/

theorem elapsed_lt_iff (now lastUpdate minPeriod : Time) :
    elapsed now lastUpdate < minPeriod ↔
      ((now.toNat : Int) - lastUpdate.toNat) % 2 ^ 32 < minPeriod.toNat := by
  rw [BitVec.lt_def, ← elapsed_toNat, Int.ofNat_lt]

/-- A tick request is accepted exactly when it passes its checks and the command port took no TICK (R102,
R163). -/
theorem tickVerdict_accepted_iff (taken : Bool) (now : Time) (s : State) :
    tickVerdict taken now s = .accepted ↔ taken = false ∧ TickPasses s s.enabled now := by
  unfold TickPasses
  rw [← not_lt, ← elapsed_lt_iff]
  constructor
  · intro h
    obtain ⟨hfree, htaken, hon, hperiod⟩ := of_tickVerdict_accepted h
    exact ⟨htaken, hfree, hon, hperiod⟩
  · rintro ⟨rfl, hfree, hon, hperiod⟩
    simp [tickVerdict, hfree, hon, hperiod]

theorem tickVerdict_of_flight {s : State} (h : s.tickFlight.isSome = true) (taken : Bool) (now : Time) :
    tickVerdict taken now s = .dropped := by
  simp [tickVerdict, h]

theorem tickVerdict_of_taken (now : Time) (s : State) : tickVerdict true now s = .dropped := by
  simp [tickVerdict]

theorem tickVerdict_of_disabled {s : State} (hfree : s.tickFlight = none) (hoff : s.enabled = false)
    (now : Time) : tickVerdict false now s = .disabled := by
  simp [tickVerdict, hfree, hoff]

theorem tickVerdict_of_tooSoon {s : State} {now : Time} (hfree : s.tickFlight = none)
    (hon : s.enabled = true) (hsoon : elapsed now s.lastUpdate < s.cfg.minPeriod) :
    tickVerdict false now s = .tooSoon := by
  simp [tickVerdict, hfree, hon, hsoon]

/-! What an applied tick drives (R106, R112). -/

/-- The duty that a tick with this snapshot commands: 0 on a fault, else the law's. -/
def commandedDuty (snap : Snapshot) : Int :=
  if (kin snap.cfg snap.raw).2 then 0
  else pLaw snap.cfg.kp snap.cfg.dutyFs ((snap.target.toNat : Int) - (kin snap.cfg snap.raw).1.toNat)

/-- A tick with this snapshot leaves the duty alone: a fault under the policy HOLD (R19, R106). -/
def holdsDuty (snap : Snapshot) : Bool :=
  (kin snap.cfg snap.raw).2 && snap.cfg.ctrlCfg.getLsbD 1

theorem faultPolicy_eq_hold_iff (c : CfgRegs) : c.faultPolicy = .hold ↔ c.ctrlCfg.getLsbD 1 = true := by
  unfold CfgRegs.faultPolicy
  cases c.ctrlCfg.getLsbD 1 <;> decide

theorem faultPolicy_eq_zero_iff (c : CfgRegs) : c.faultPolicy = .zero ↔ c.ctrlCfg.getLsbD 1 = false := by
  unfold CfgRegs.faultPolicy
  cases c.ctrlCfg.getLsbD 1 <;> decide

/-- A duty within the full scale goes whole to the duty register and, by its sign, to one channel. -/
theorem setDuty_of_within {fs : Level} {d : Int} (h1 : -(fs.toNat : Int) ≤ d) (h2 : d ≤ fs.toNat)
    (s : State) :
    setDuty fs d s =
      { s with
        duty := BitVec.ofInt 16 d
        pwmA := BitVec.ofInt 15 (max d 0)
        pwmB := BitVec.ofInt 15 (max (-d) 0) } := by
  unfold setDuty
  dsimp only
  rw [clampDuty_of_within h1 h2]
  rcases le_or_gt d 0 with hd | hd
  · rw [max_eq_right hd, max_eq_left (neg_nonneg.2 hd), if_neg hd.not_gt, if_neg hd.not_gt]
    rfl
  · rw [max_eq_left hd.le, max_eq_right (neg_nonpos.2 hd.le), if_pos hd, if_pos hd]
    rfl

/-- The three ways of R106 in one equation. -/
theorem driveDuty_eq (snap : Snapshot) (s : State) :
    driveDuty snap s =
      { s with
        flags := if (kin snap.cfg snap.raw).2 then s.flags ||| 0b000001#6 else s.flags
        duty := if holdsDuty snap then s.duty else BitVec.ofInt 16 (commandedDuty snap)
        pwmA := if holdsDuty snap then s.pwmA else BitVec.ofInt 15 (max (commandedDuty snap) 0)
        pwmB := if holdsDuty snap then s.pwmB else BitVec.ofInt 15 (max (-commandedDuty snap) 0) } := by
  rcases driveDuty_cases snap s with ⟨hfault, hpolicy, h⟩ | ⟨hfault, hpolicy, h⟩ | ⟨hclean, h⟩ <;> rw [h]
  · have hheld : holdsDuty snap = false := by
      rw [holdsDuty, (faultPolicy_eq_zero_iff _).1 hpolicy, Bool.and_false]
    have hduty : commandedDuty snap = 0 := if_pos hfault
    rw [hheld, hduty, hfault, setDuty_zero]
    rfl
  · have hheld : holdsDuty snap = true := by
      rw [holdsDuty, hfault, (faultPolicy_eq_hold_iff _).1 hpolicy, Bool.and_true]
    rw [hheld, hfault]
    rfl
  · have hheld : holdsDuty snap = false := by simp [holdsDuty, hclean]
    have hduty : commandedDuty snap =
        pLaw snap.cfg.kp snap.cfg.dutyFs (lengthError snap.target (kin snap.cfg snap.raw).1) :=
      if_neg (by simp [hclean])
    obtain ⟨hlow, hhigh⟩ := pLaw_bounds snap.cfg.kp snap.cfg.dutyFs
      (lengthError snap.target (kin snap.cfg snap.raw).1)
    rw [hheld, hduty, hclean, setDuty_of_within hlow hhigh]
    rfl

/-! The flags and the drive after an applied tick. -/

theorem applyTick_flags (snap : Snapshot) (s : State) :
    (applyTick snap s).flags =
      if (kin snap.cfg snap.raw).2 then s.flags ||| 0b000001#6 else s.flags := by
  rw [applyTick_eq, driveDuty_eq]

theorem applyTick_duty (snap : Snapshot) (s : State) :
    (applyTick snap s).duty =
      if holdsDuty snap then s.duty else BitVec.ofInt 16 (commandedDuty snap) := by
  rw [applyTick_eq, driveDuty_eq]

theorem applyTick_pwmA (snap : Snapshot) (s : State) :
    (applyTick snap s).pwmA =
      if holdsDuty snap then s.pwmA else BitVec.ofInt 15 (max (commandedDuty snap) 0) := by
  rw [applyTick_eq, driveDuty_eq]

theorem applyTick_pwmB (snap : Snapshot) (s : State) :
    (applyTick snap s).pwmB =
      if holdsDuty snap then s.pwmB else BitVec.ofInt 15 (max (-commandedDuty snap) 0) := by
  rw [applyTick_eq, driveDuty_eq]

/-! The records of a tick and the drive, compared between two states. -/

/-- The tick counter and the observation registers are the same (R36, R38). -/
def SameRecords (s t : State) : Prop :=
  t.tickCount = s.tickCount ∧ t.lastRaw = s.lastRaw ∧ t.lastLength = s.lastLength ∧
    t.lastTickFault = s.lastTickFault ∧ t.lastUpdate = s.lastUpdate

/-- The duty and both channels are the same (R33, R34). -/
def SameDrive (s t : State) : Prop := t.duty = s.duty ∧ t.pwmA = s.pwmA ∧ t.pwmB = s.pwmB

theorem SameRecords.trans {s t u : State} (h1 : SameRecords s t) (h2 : SameRecords t u) :
    SameRecords s u := by
  obtain ⟨a1, a2, a3, a4, a5⟩ := h1
  obtain ⟨b1, b2, b3, b4, b5⟩ := h2
  exact ⟨b1.trans a1, b2.trans a2, b3.trans a3, b4.trans a4, b5.trans a5⟩

theorem sameRecords_stopPin (s : State) : SameRecords s (stopPin s) := by simp [SameRecords]

theorem sameRecords_commitQuery (s : State) : SameRecords s (commitQuery s) := by simp [SameRecords]

/-! Position 1: what a command leaves to the rest of the cycle. -/

@[simp] theorem occupyWithQuery_build (s : State) : (occupyWithQuery s).build = s.build := by
  unfold occupyWithQuery; split <;> rfl
@[simp] theorem occupyWithQuery_cycle (s : State) : (occupyWithQuery s).cycle = s.cycle := by
  unfold occupyWithQuery; split <;> rfl
@[simp] theorem occupyWithQuery_pins (s : State) : (occupyWithQuery s).pins = s.pins := by
  unfold occupyWithQuery; split <;> rfl
@[simp] theorem occupyWithQuery_enabled (s : State) : (occupyWithQuery s).enabled = s.enabled := by
  unfold occupyWithQuery; split <;> rfl
@[simp] theorem occupyWithQuery_cfg (s : State) : (occupyWithQuery s).cfg = s.cfg := by
  unfold occupyWithQuery; split <;> rfl
@[simp] theorem occupyWithQuery_target (s : State) : (occupyWithQuery s).target = s.target := by
  unfold occupyWithQuery; split <;> rfl
@[simp] theorem occupyWithQuery_lastUpdate (s : State) :
    (occupyWithQuery s).lastUpdate = s.lastUpdate := by
  unfold occupyWithQuery; split <;> rfl
@[simp] theorem occupyWithQuery_tickFlight (s : State) :
    (occupyWithQuery s).tickFlight = s.tickFlight := by
  unfold occupyWithQuery; split <;> rfl
@[simp] theorem occupyWithQuery_tickCount (s : State) :
    (occupyWithQuery s).tickCount = s.tickCount := by
  unfold occupyWithQuery; split <;> rfl
@[simp] theorem occupyWithQuery_encStrobe (s : State) : (occupyWithQuery s).encStrobe = true := by
  unfold occupyWithQuery; split <;> rfl

theorem sameRecords_occupyWithQuery (s : State) : SameRecords s (occupyWithQuery s) := by
  unfold occupyWithQuery; split <;> exact ⟨rfl, rfl, rfl, rfl, rfl⟩

/-- The build, the cycle's number and the ports are the same (R6, R157). -/
def SameCycle (s t : State) : Prop := t.build = s.build ∧ t.cycle = s.cycle ∧ t.pins = s.pins

/-- A command does not touch the build, the cycle's number or the ports. -/
theorem sameCycle_exec {i : Instr} {s c : State} (h : exec i s = .next c) : SameCycle s c := by
  unfold SameCycle
  rcases exec_cases h with ⟨_, _, rfl | rfl⟩ | ⟨_, rfl⟩ | ⟨_, rfl | ⟨_, rfl⟩⟩ | ⟨_, _, rfl⟩ |
    ⟨_, _, _, _, _, _, rfl⟩ | ⟨_, _, rfl⟩ | ⟨_, _, _, rfl⟩ | ⟨_, _, _, rfl⟩ <;> simp [answerError]

/-- The state that the command port leaves: as it was, with the ILLEGAL answer, or after a command (R61, R75). -/
theorem commandPort_outcome {s c : State} (h : commandPort s = .next c) :
    (s.accepts = false ∧ c = s) ∨
    (∃ why, s.accepts = true ∧ decode s.pins.cmdWord = .illegal why ∧ c = answerIllegal s) ∨
    (∃ i, s.accepts = true ∧ decode s.pins.cmdWord = .command i ∧ exec i s = .next c) := by
  rcases commandPort_cases s with ⟨hidle, hp⟩ | ⟨why, haccepts, hdecode, hp⟩ |
    ⟨i, _, haccepts, hdecode, hexec, hp⟩ <;> obtain rfl := Host.Outcome.next.inj (hp.symm.trans h)
  · exact .inl ⟨hidle, rfl⟩
  · exact .inr (.inl ⟨why, haccepts, hdecode, rfl⟩)
  · exact .inr (.inr ⟨i, haccepts, hdecode, hexec⟩)

theorem sameCycle_commandPort {s c : State} (h : commandPort s = .next c) : SameCycle s c := by
  rcases commandPort_outcome h with ⟨_, rfl⟩ | ⟨_, _, _, rfl⟩ | ⟨_, _, _, hexec⟩
  · exact ⟨rfl, rfl, rfl⟩
  · exact ⟨rfl, rfl, rfl⟩
  · exact sameCycle_exec hexec

/-- The step of a cycle that accepts no command. -/
theorem step_of_not_accepts {s : State} (hrst : s.pins.rst = false) (h : s.accepts = false) :
    step s = .next (closeCycle s (afterCommand false (beginCycle s))) := by
  have hport : commandPort (beginCycle s) = .next (beginCycle s) := by simp [commandPort, h]
  have htaken : commandTakesTick (beginCycle s) = false := by simp [commandTakesTick, h]
  rw [step_cycle hrst hport, htaken]

/-- While a QUERY_LENGTH is owed its answer no command is accepted (R61, R161). -/
theorem not_accepts_of_query {s : State} (h : s.queryFlight.isSome = true) : s.accepts = false := by
  simp [State.accepts, State.cmdReady, State.portFree, Option.isNone_eq_false_iff.2 h]

/-- The step of a cycle that accepts a command (R158). -/
theorem step_of_command {s c : State} {i : Instr} (haccepts : s.accepts = true)
    (hdecode : decode s.pins.cmdWord = .command i) (hexec : exec i (beginCycle s) = .next c) :
    step s = .next (closeCycle s (afterCommand (commandTakesTick (beginCycle s)) c)) := by
  obtain ⟨hrst, _, _⟩ := of_accepts haccepts
  have hport : commandPort (beginCycle s) = exec i (beginCycle s) :=
    (commandPort_of_accepts (s := beginCycle s) haccepts).trans (perform_of_command hdecode _)
  exact step_cycle hrst (hport.trans hexec)

theorem commandTakesTick_of_not_tick {s : State} {i : Instr} (hdecode : decode s.pins.cmdWord = .command i)
    (hi : ∀ now, i ≠ .tick now) : commandTakesTick s = false := by
  unfold commandTakesTick
  rw [hdecode]
  cases i with
  | tick now => exact absurd rfl (hi now)
  | _ => exact Bool.and_false _

theorem commandTakesTick_of_tick {s : State} {now : Time} (haccepts : s.accepts = true)
    (hdecode : decode s.pins.cmdWord = .command (.tick now)) :
    commandTakesTick s = (tickVerdict false now s == .accepted) := by
  simp [commandTakesTick, haccepts, hdecode]

/-- A TICK that passes its checks answers OK, 0 and takes the unit (R105, R113). -/
theorem exec_tick_of_passes {s : State} {now : Time} (h : TickPasses s s.enabled now) :
    exec (.tick now) s = .next (respond .ok 0#32 (acceptTick now s)) := by
  have hverdict := (tickVerdict_accepted_iff false now s).2 ⟨rfl, h⟩
  simp [exec, execTick, hverdict, TickVerdict.status, TickVerdict.data, performTick]

/-- The cycle whose command port accepts a TICK that passes its checks. -/
theorem step_of_passing_tick {s : State} {now : Time} (haccepts : s.accepts = true)
    (hdecode : decode s.pins.cmdWord = .command (.tick now)) (h : TickPasses s s.enabled now) :
    step s = .next (closeCycle s
      (afterCommand true (respond .ok 0#32 (acceptTick now (beginCycle s))))) := by
  have hpasses : TickPasses (beginCycle s) (beginCycle s).enabled now := h
  have hverdict := (tickVerdict_accepted_iff false now (beginCycle s)).2 ⟨rfl, hpasses⟩
  have htaken : commandTakesTick (beginCycle s) = true := by
    rw [commandTakesTick_of_tick (s := beginCycle s) haccepts hdecode, hverdict]
    rfl
  rw [step_of_command haccepts hdecode (exec_tick_of_passes hpasses), htaken]

theorem tickFlight_of_not_busy {s : State} (h : s.busy = false) : s.tickFlight = none := by
  simp only [State.busy, Bool.or_eq_false_iff, Option.isSome_eq_false_iff, Option.isNone_iff_eq_none] at h
  exact h.1

/-- What a command does to the slot and the records of the ticks: a TICK that passes its checks takes the
unit; every other command leaves the records, and the tick in flight unless it is ESTOP (R101, R102). -/
theorem exec_tick_cases {i : Instr} {s c : State} (h : exec i s = .next c) :
    (∃ now, i = .tick now ∧ TickPasses s s.enabled now ∧ c = respond .ok 0#32 (acceptTick now s)) ∨
    ((∀ now, i = .tick now → tickVerdict false now s ≠ .accepted) ∧ SameRecords s c ∧
      (i = .estop ∧ c = respond .ok 0#32 (eStopEffect s) ∨
        i ≠ .estop ∧ c.tickFlight = s.tickFlight ∧ SameDrive s c)) := by
  rcases exec_cases h with ⟨_, rfl, rfl | rfl⟩ | ⟨rfl, rfl⟩ | ⟨rfl, rfl | ⟨_, rfl⟩⟩ | ⟨now, rfl, rfl⟩ |
    ⟨_, _, _, rfl, _, _, rfl⟩ | ⟨_, rfl, rfl⟩ | ⟨_, _, rfl | ⟨_, rfl⟩ | ⟨_, rfl⟩, rfl⟩ |
    ⟨_, _, ⟨_, _, rfl⟩ | ⟨_, rfl⟩ | ⟨_, rfl⟩, rfl⟩
  case inr.inr.inr.inl =>
    cases hv : tickVerdict false now s with
    | accepted => exact .inl ⟨now, rfl, ((tickVerdict_accepted_iff false now s).1 hv).2, rfl⟩
    | dropped | disabled | tooSoon =>
      refine .inr ⟨?_, by simp [SameRecords, performTick], .inr (by simp [SameDrive, performTick])⟩
      rintro _ ⟨⟩
      simp [hv]
  case inr.inr.inl.inr =>
    refine .inr ⟨by simp, sameRecords_occupyWithQuery s, .inr ⟨by simp, by simp, ?_⟩⟩
    unfold occupyWithQuery SameDrive
    split <;> simp
  all_goals exact .inr ⟨by simp, by simp [SameRecords, answerError], by simp [SameDrive, answerError]⟩

/-! Position 2: the stop pin. -/

theorem stopPin_of_idle {s : State} (h : s.pins.estopReq = false) : stopPin s = s := by
  simp [stopPin, h]

theorem stopPin_of_request {s : State} (h : s.pins.estopReq = true) : stopPin s = eStopEffect s := by
  simp [stopPin, h]

/-! Position 3: the tick port. -/

theorem tickPort_of_idle {s : State} (h : s.pins.tickValid = false) (taken : Bool) :
    tickPort taken s = s := by
  simp [tickPort, h]

theorem tickPort_of_accepted {taken : Bool} {s : State} (hvalid : s.pins.tickValid = true)
    (h : tickVerdict taken s.pins.tickNow s = .accepted) :
    tickPort taken s = acceptTick s.pins.tickNow s := by
  simp [tickPort, hvalid, h, performTick]

/-- A request that is not accepted sets TICK_OVERRUN at most (R66, R102). -/
theorem tickPort_of_not_accepted {taken : Bool} {s : State}
    (h : s.pins.tickValid = true → tickVerdict taken s.pins.tickNow s ≠ .accepted) :
    tickPort taken s = s ∨ tickPort taken s = setFlag .tickOverrun s := by
  rcases tickPort_cases taken s with ⟨_, hp⟩ | ⟨hvalid, hp⟩
  · exact .inl hp
  · rcases performTick_cases taken s.pins.tickNow s with hd | hd | ⟨_, _, _, ha, _⟩
    · exact .inr (hp.trans hd)
    · exact .inl (hp.trans hd)
    · exact absurd ha (h hvalid)

/-- Behind an accepted command-port TICK the request is dropped (R163). -/
theorem tickPort_of_taken {s : State} (h : s.pins.tickValid = true) :
    tickPort true s = setFlag .tickOverrun s := by
  simp [tickPort, h, tickVerdict_of_taken, performTick]

/-! Position 4: the commits. -/

theorem commitTick_of_none {s : State} (h : s.tickFlight = none) : commitTick s = s :=
  commitTick_of_not_due (by simp [h])

theorem commitQuery_of_none {s : State} (h : s.queryFlight = none) : commitQuery s = s :=
  commitQuery_of_not_due (by simp [h])

end Sys2Proof.Machine

/-! Decoding and encoding as inverses of each other (30_encoding.md R62 to R79). -/

namespace Sys2Proof

/-- A word of format N or D with index 0 spells the command of its fields (R63, R71). -/
theorem decode_commandWord_of_formatN_or_D {op : OpCode} (hop : op.toNat ∈ [0, 1, 2, 3, 4, 8])
    (data : Data) : decode (commandWord op 0#4 data) = .command (commandOf op 0#4 data) := by
  rw [decode_of_formatN_or_D (by rwa [opField_commandWord]), withoutIndex, opField_commandWord,
    idxField_commandWord, dataField_commandWord, if_pos rfl]

/-- A word of format ID or I spells the command of its fields, at every index (R63, R71). -/
theorem decode_commandWord_of_formatID_or_I {op : OpCode} (hop : op.toNat ∈ [5, 6, 7]) (idx : Idx)
    (data : Data) : decode (commandWord op idx data) = .command (commandOf op idx data) := by
  rw [decode_of_formatID_or_I (by rwa [opField_commandWord]), opField_commandWord,
    idxField_commandWord, dataField_commandWord]

/-- Settles O1: the emitted word has the command's fields, and those of its format decode to it. -/
theorem decodeOfEncodeGivesCommandBack : Obligations.DecodeOfEncodeGivesCommandBack := by
  intro i
  cases i with
  | nop => exact decode_commandWord_of_formatN_or_D (op := 0#4) (by decide) _
  | setTarget target => exact decode_commandWord_of_formatN_or_D (op := 1#4) (by decide) target
  | estop => exact decode_commandWord_of_formatN_or_D (op := 2#4) (by decide) _
  | queryLength => exact decode_commandWord_of_formatN_or_D (op := 3#4) (by decide) _
  | tick now => exact decode_commandWord_of_formatN_or_D (op := 4#4) (by decide) now
  | cfgWrite idx data => exact decode_commandWord_of_formatID_or_I (op := 5#4) (by decide) idx data
  | cfgRead idx => exact decode_commandWord_of_formatID_or_I (op := 6#4) (by decide) idx _
  | statRead idx => exact decode_commandWord_of_formatID_or_I (op := 7#4) (by decide) idx _
  | clearFlags mask => exact decode_commandWord_of_formatN_or_D (op := 8#4) (by decide) mask

/-- The format of the command uses DATA (R63, R71). -/
def Instr.usesData : Instr → Bool
  | .setTarget _ | .tick _ | .cfgWrite _ _ | .clearFlags _ => true
  | .nop | .estop | .queryLength | .cfgRead _ | .statRead _ => false

/-- The operation codes that spell a command (R71). -/
theorem opcode_of_lt_nine {op : OpCode} (h : op.toNat < 9) :
    op = 0#4 ∨ op = 1#4 ∨ op = 2#4 ∨ op = 3#4 ∨ op = 4#4 ∨ op = 5#4 ∨ op = 6#4 ∨ op = 7#4 ∨
      op = 8#4 := by
  revert op
  decide

/-- The word emitted for the command of some fields has those fields again, but for DATA where its format
uses none, which is then 0 (R71, R74). -/
theorem encode_commandOf {op : OpCode} {idx : Idx} (hop : op.toNat < 9)
    (hidx : op.toNat ∈ [0, 1, 2, 3, 4, 8] → idx = 0#4) (data : Data) :
    encode (commandOf op idx data) =
      commandWord op idx (if (commandOf op idx data).usesData then data else 0#32) := by
  rcases opcode_of_lt_nine hop with rfl | rfl | rfl | rfl | rfl | rfl | rfl | rfl | rfl
  case inr.inr.inr.inr.inr.inl => rfl
  case inr.inr.inr.inr.inr.inr.inl => rfl
  case inr.inr.inr.inr.inr.inr.inr.inl => rfl
  all_goals
    obtain rfl := hidx (by decide)
    rfl

/-- A word that spells a command has an operation code below 9, and index 0 in formats N and D (R75). -/
theorem fields_of_decode {w : CommandWord} {i : Instr} (h : decode w = .command i) :
    (opField w).toNat < 9 ∧ ((opField w).toNat ∈ [0, 1, 2, 3, 4, 8] → idxField w = 0#4) := by
  constructor
  · by_contra hop
    rw [decode_of_reserved (not_lt.1 hop)] at h
    cases h
  · intro hop
    by_contra hidx
    rw [decode_of_nonzeroIndex hop hidx] at h
    cases h

/-- A word that spells a command is emitted for it again, with its DATA where the format uses DATA. -/
theorem encode_of_decode {w : CommandWord} {i : Instr} (h : decode w = .command i) :
    encode i = commandWord (opField w) (idxField w) (if i.usesData then dataField w else 0#32) := by
  obtain ⟨hop, hidx⟩ := fields_of_decode h
  rw [eq_commandOf_of_decode h]
  exact encode_commandOf hop hidx (dataField w)

/-- Settles O2: the emitted word is that of the decoded fields, so its fields are read off. -/
theorem encodeOfDecodeKeepsUsedFields : Obligations.EncodeOfDecodeKeepsUsedFields := by
  intro w i h
  have hword := encode_of_decode h
  refine ⟨by rw [hword, opField_commandWord], by rw [hword, idxField_commandWord], ?data⟩
  case data =>
    have hdata : dataField (encode i) = if i.usesData then dataField w else 0#32 := by
      rw [hword, dataField_commandWord]
    cases i <;> exact hdata

end Sys2Proof

/-! Snapshot, duty and target stay within the configuration in force over every step (41_controller.md R99,
R110; 43_register_access.md R132; 70_reset_and_hazards.md R169): the three are carried together through the
positions of a cycle, beside `SafeOutputs`, by which a writable configuration means zero duty and no tick in
flight. -/

namespace Sys2Proof.Machine

open Sys2Proof.Safety

/-- The three facts that a step keeps of a state with `SafeOutputs`. -/
def WithinConfig (s : State) : Prop := SnapshotCurrent s ∧ DutyWithinScale s ∧ TargetWithinLimits s

/-- The facts read five registers: what leaves them alone keeps them. -/
theorem WithinConfig.congr {s t : State} (hs : WithinConfig s)
    (hcfg : t.cfg = s.cfg := by simp) (henabled : t.enabled = s.enabled := by simp)
    (htarget : t.target = s.target := by simp) (hduty : t.duty = s.duty := by simp)
    (hflight : t.tickFlight = s.tickFlight := by simp) : WithinConfig t := by
  unfold WithinConfig SnapshotCurrent DutyWithinScale TargetWithinLimits
  rw [hcfg, henabled, htarget, hduty, hflight]
  exact hs

/-- A zero duty is within every full scale. -/
theorem dutyWithinScale_of_zero {s : State} (h : s.duty = 0#16) : DutyWithinScale s := by
  simp [DutyWithinScale, h]

/-- While Disabled with the channels off and nothing in flight the configuration bounds nothing. -/
theorem withinConfig_of_off {s : State} (hoff : s.enabled = false) (hduty : s.duty = 0#16)
    (hflight : s.tickFlight = none) : WithinConfig s :=
  ⟨by simp [SnapshotCurrent, hflight], dutyWithinScale_of_zero hduty, by simp [TargetWithinLimits, hoff]⟩

theorem agreeButMask_refl (c : CfgRegs) : AgreeButMask c c := rfl

/-- The full scale is one of the locked registers (R52). -/
theorem dutyFs_of_agreeButMask {c d : CfgRegs} (h : AgreeButMask c d) : c.dutyFs = d.dutyFs := by
  rw [← h]

theorem agreeButMask_writeCfg_irqMask {c d : CfgRegs} (h : AgreeButMask c d) (data : Data) :
    AgreeButMask c (writeCfg .irqMask data d) := by
  rw [← h]
  rfl

/-! The duty. -/

theorem dutyWithinScale_setDuty (d : Int) (s : State) : DutyWithinScale (setDuty s.cfg.dutyFs d s) := by
  unfold DutyWithinScale
  rw [toInt_setDuty_duty]
  exact clampDuty_bounds s.cfg.dutyFs d

/-- An applied tick drives within the full scale of its snapshot (R110, R118). -/
theorem dutyWithinScale_applyTick {snap : Snapshot} {s : State} (hs : DutyWithinScale s)
    (hfs : snap.cfg.dutyFs = s.cfg.dutyFs) : DutyWithinScale (applyTick snap s) := by
  rw [applyTick_eq]
  rcases driveDuty_cases snap _ with ⟨_, _, h⟩ | ⟨_, _, h⟩ | ⟨_, h⟩ <;> rw [h]
  · exact dutyWithinScale_of_zero (by rw [setDuty_zero])
  · exact hs
  · rw [hfs]
    exact dutyWithinScale_setDuty _ _

/-- An applied tick that holds the full scale in force keeps the three facts. -/
theorem withinConfig_applyTick {snap : Snapshot} {s : State} (hs : WithinConfig s)
    (hfs : snap.cfg.dutyFs = s.cfg.dutyFs) : WithinConfig (applyTick snap s) := by
  obtain ⟨hsnap, hduty, htarget⟩ := hs
  refine ⟨?snapshot, dutyWithinScale_applyTick hduty hfs, ?target⟩
  case snapshot => simpa [SnapshotCurrent] using hsnap
  case target => simpa [TargetWithinLimits] using htarget

/-! The positions of a cycle (R158). -/

/-- A tick accepted now is applied with the configuration in force, or takes it as its snapshot (R160). -/
theorem withinConfig_acceptTick {s : State} (hs : WithinConfig s) (now : Time) :
    WithinConfig (acceptTick now s) := by
  rcases acceptTick_cases now s with ⟨_, h⟩ | ⟨_, h⟩ <;> rw [h]
  · have hsampled : WithinConfig { markSampled s with queryFlight := s.preemptedQuery } := hs.congr
    exact withinConfig_applyTick hsampled rfl
  · obtain ⟨_, hduty, htarget⟩ := hs
    refine ⟨?snapshot, hduty, htarget⟩
    case snapshot =>
      rintro t ⟨⟩
      exact agreeButMask_refl s.cfg

theorem withinConfig_performTick {s : State} (hs : WithinConfig s) (taken : Bool) (now : Time) :
    WithinConfig (performTick (tickVerdict taken now s) now s) := by
  rcases performTick_cases taken now s with h | h | ⟨_, _, _, _, h⟩ <;> rw [h]
  · exact hs.congr
  · exact hs
  · exact withinConfig_acceptTick hs now

theorem withinConfig_eStopEffect (s : State) : WithinConfig (eStopEffect s) :=
  withinConfig_of_off (by simp) (by simp) (by simp)

/-- SET_TARGET stores a target that the limits keep as it is (R99). -/
theorem withinConfig_setTarget {s : State} (hs : WithinConfig s) (target : Data) :
    WithinConfig
      { s with target := BitVec.ofNat 17 (clampedTarget s.cfg target), enabled := true } := by
  obtain ⟨hsnap, hduty, _⟩ := hs
  refine ⟨hsnap, hduty, fun _ => ?_⟩
  simp only [toNat_ofNat_clampedTarget]
  exact clampNat_clampNat _ _ _

/-- A register that is not locked bounds nothing that is in force: it is IRQ_MASK, or the controller is off
(R127). -/
theorem withinConfig_writeCfg {s : State} {r : CfgReg} (hsafe : SafeOutputs s) (hs : WithinConfig s)
    (hunlocked : cfgLocked r s = false) (data : Data) :
    WithinConfig { s with cfg := writeCfg r data s.cfg } := by
  rcases (cfgLocked_eq_false_iff r s).1 hunlocked with hoff | rfl
  · obtain ⟨⟨hchannels, _, _⟩, hflight⟩ := hsafe
    have hnone : s.tickFlight = none := by
      by_contra hsome
      have hon := hflight (Option.isSome_iff_ne_none.2 hsome)
      exact absurd hon (by simp [hoff])
    obtain ⟨hduty, _, _⟩ := hchannels hoff
    exact withinConfig_of_off hoff hduty hnone
  · obtain ⟨hsnap, hduty, htarget⟩ := hs
    refine ⟨fun t ht => ?snapshot, hduty, htarget⟩
    case snapshot => exact agreeButMask_writeCfg_irqMask (hsnap t ht) data

theorem withinConfig_occupyWithQuery {s : State} (hs : WithinConfig s) :
    WithinConfig (occupyWithQuery s) := by
  unfold occupyWithQuery
  split <;> exact hs.congr

theorem withinConfig_answerError {s : State} (hs : WithinConfig s) (f : Flag) (status : RspStatus) :
    WithinConfig (answerError f status s) := by
  unfold answerError
  exact hs.congr

theorem withinConfig_exec {i : Instr} {s c : State} (hsafe : SafeOutputs s) (hs : WithinConfig s)
    (h : exec i s = .next c) : WithinConfig c := by
  rcases exec_cases h with ⟨target, _, rfl | rfl⟩ | ⟨_, rfl⟩ | ⟨_, rfl | ⟨_, rfl⟩⟩ | ⟨now, _, rfl⟩ |
    ⟨_, data, r, _, _, hunlocked, rfl⟩ | ⟨_, _, rfl⟩ | ⟨_, _, _, rfl⟩ | ⟨_, _, _, rfl⟩
  · exact (withinConfig_setTarget hs target).congr
  · exact (withinConfig_setTarget hs target).congr
  · exact (withinConfig_eStopEffect s).congr
  · exact hs.congr
  · exact withinConfig_occupyWithQuery hs
  · exact (withinConfig_performTick hs false now).congr
  · exact (withinConfig_writeCfg hsafe hs hunlocked data).congr
  · exact hs.congr
  · exact hs.congr
  · exact withinConfig_answerError hs _ _

theorem withinConfig_commandPort {s c : State} (hsafe : SafeOutputs s) (hs : WithinConfig s)
    (h : commandPort s = .next c) : WithinConfig c := by
  rcases commandPort_outcome h with ⟨_, rfl⟩ | ⟨_, _, _, rfl⟩ | ⟨_, _, _, hexec⟩
  · exact hs
  · exact withinConfig_answerError hs _ _
  · exact withinConfig_exec hsafe hs hexec

theorem withinConfig_stopPin {s : State} (hs : WithinConfig s) : WithinConfig (stopPin s) := by
  rcases stopPin_cases s with ⟨_, h⟩ | ⟨_, h⟩ <;> rw [h]
  · exact withinConfig_eStopEffect s
  · exact hs

theorem withinConfig_tickPort {s : State} (hs : WithinConfig s) (taken : Bool) :
    WithinConfig (tickPort taken s) := by
  rcases tickPort_cases taken s with ⟨_, h⟩ | ⟨_, h⟩ <;> rw [h]
  · exact hs
  · exact withinConfig_performTick hs taken _

/-- The tick that commits drives by its snapshot, whose full scale is the one in force (R118, R132). -/
theorem withinConfig_commitTick {s : State} (hs : WithinConfig s) : WithinConfig (commitTick s) := by
  rcases commitTick_cases s with ⟨f, hf, _, h⟩ | ⟨_, h⟩ <;> rw [h]
  · obtain ⟨hsnap, hduty, htarget⟩ := hs
    have hfree : WithinConfig { s with tickFlight := none } := ⟨by simp [SnapshotCurrent], hduty, htarget⟩
    exact withinConfig_applyTick hfree (dutyFs_of_agreeButMask (hsnap f hf))
  · exact hs

theorem withinConfig_afterCommand {s : State} (hs : WithinConfig s) (taken : Bool) :
    WithinConfig (afterCommand taken s) := by
  have hcommitted := withinConfig_commitTick (withinConfig_tickPort (withinConfig_stopPin hs) taken)
  unfold afterCommand commits
  exact hcommitted.congr

theorem withinConfig_resetWith (p : Config.Params) (cycle : Nat) (pins : PortInputs)
    (stimulus : List PortInputs) : WithinConfig (State.resetWith p cycle pins stimulus) :=
  withinConfig_of_off rfl rfl rfl

theorem withinConfig_step {s t : State} (hsafe : SafeOutputs s) (hs : WithinConfig s)
    (h : step s = .next t) : WithinConfig t := by
  rcases step_cases h with ⟨_, rfl⟩ | ⟨_, c, hc, rfl⟩
  · exact withinConfig_resetWith _ _ _ _
  · have hsafe0 : SafeOutputs (beginCycle s) := hsafe.congr
    have hbegin : WithinConfig (beginCycle s) := hs.congr
    have hcommand := withinConfig_commandPort hsafe0 hbegin hc
    have hafter := withinConfig_afterCommand hcommand (commandTakesTick (beginCycle s))
    exact hafter.congr

/-- Settles O54: the facts hold after a reset, and every position of a cycle keeps them. -/
theorem everyStepKeepsDutyAndTargetInScale : Obligations.EveryStepKeepsDutyAndTargetInScale :=
  fun _ _ hout hflight hsnap hduty htarget h =>
    withinConfig_step ⟨hout, hflight⟩ ⟨hsnap, hduty, htarget⟩ h

end Sys2Proof.Machine

/-! Operations in flight commit in time (70_reset_and_hazards.md R160 to R162): `FlightsTimely` at the edges of
a cycle, `FlightsDue` between them, where a QUERY_LENGTH accepted in the cycle itself may stand beside a tick
that is still to come. -/

namespace Sys2Proof.Machine

open Sys2Proof.Safety

/-- A QUERY_LENGTH in flight beside a tick: pre-empted, it answers before the tick commits; else it has the
tick's commit cycle and sample (R162). -/
def FlightsPaired (s : State) : Prop :=
  ∀ t q, s.tickFlight = some t → s.queryFlight = some q →
    if q.cancelled then q.commitAt < t.commitAt
    else q.commitAt = t.commitAt ∧ q.raw = t.snap.raw

/-- What holds of the flights inside a cycle: they commit in this cycle or up to the commit cycle of an
operation accepted in it; a QUERY_LENGTH with just that commit cycle was accepted in this cycle, so that it has
its sample (R160, R162). -/
structure FlightsDue (s : State) : Prop where
  tick : ∀ t, s.tickFlight = some t → s.cycle ≤ t.commitAt ∧ t.commitAt ≤ s.commitCycle
  query : ∀ q, s.queryFlight = some q → s.cycle ≤ q.commitAt ∧ q.commitAt ≤ s.commitCycle
  fresh : ∀ q, s.queryFlight = some q → q.commitAt = s.commitCycle →
    q.cancelled = false ∧ q.raw = encRead s
  paired : FlightsPaired s

/-- `FlightsDue` reads the two slots, the cycle, the latency and the encoder port. -/
theorem FlightsDue.congr {s t : State} (hs : FlightsDue s)
    (htick : t.tickFlight = s.tickFlight := by simp) (hquery : t.queryFlight = s.queryFlight := by simp)
    (hcycle : t.cycle = s.cycle := by simp) (hbuild : t.build = s.build := by simp)
    (hpins : t.pins = s.pins := by simp) : FlightsDue t := by
  obtain ⟨h1, h2, h3, h4⟩ := hs
  constructor
  · simpa only [State.commitCycle, htick, hcycle, hbuild] using h1
  · simpa only [State.commitCycle, hquery, hcycle, hbuild] using h2
  · simpa only [State.commitCycle, encRead, hquery, hcycle, hbuild, hpins] using h3
  · simpa only [FlightsPaired, htick, hquery] using h4

/-- A tick that leaves its slot leaves the QUERY_LENGTH as it was. -/
theorem FlightsDue.tick_leaves {s t : State} (hs : FlightsDue s) (htick : t.tickFlight = none := by simp)
    (hquery : t.queryFlight = s.queryFlight := by simp) (hcycle : t.cycle = s.cycle := by simp)
    (hbuild : t.build = s.build := by simp) (hpins : t.pins = s.pins := by simp) : FlightsDue t := by
  refine FlightsDue.congr (s := { s with tickFlight := none }) ⟨?_, hs.query, hs.fresh, ?_⟩ htick hquery
    hcycle hbuild hpins
  · rintro _ ⟨⟩
  · rintro _ _ ⟨⟩

theorem FlightsDue.query_leaves {s t : State} (hs : FlightsDue s)
    (htick : t.tickFlight = s.tickFlight := by simp) (hquery : t.queryFlight = none := by simp)
    (hcycle : t.cycle = s.cycle := by simp) (hbuild : t.build = s.build := by simp)
    (hpins : t.pins = s.pins := by simp) : FlightsDue t := by
  refine FlightsDue.congr (s := { s with queryFlight := none }) ⟨hs.tick, ?_, ?_, ?_⟩ htick hquery
    hcycle hbuild hpins
  · rintro _ ⟨⟩
  · rintro _ ⟨⟩
  · rintro _ _ _ ⟨⟩

/-! Acceptance. -/

/-- What a tick that takes the unit makes of a QUERY_LENGTH in flight: one of this cycle shares the unit, one
of an earlier cycle is cancelled (R162). -/
theorem preemptedQuery_cases {s : State} {p : QueryFlight} (h : s.preemptedQuery = some p) :
    (s.queryFlight = some p ∧ p.commitAt = s.commitCycle) ∨
    ∃ q, s.queryFlight = some q ∧ q.commitAt ≠ s.commitCycle ∧ p = { q with cancelled := true } := by
  obtain ⟨q, hq, rfl⟩ := Option.map_eq_some_iff.1 h
  by_cases hshared : q.commitAt = s.commitCycle
  · exact .inl (by simp [hq, hshared])
  · exact .inr ⟨q, hq, hshared, by simp [hshared]⟩

/-- Pre-emption keeps the flights due, as long as no tick is in flight yet. -/
theorem flightsDue_preemptedQuery {s : State} (hs : FlightsDue s) (hnone : s.tickFlight = none) :
    FlightsDue { s with queryFlight := s.preemptedQuery } := by
  refine ⟨hs.tick, fun p hp => ?query, fun p hp hcommit => ?fresh, fun t _ ht => ?paired⟩
  case query =>
    rcases preemptedQuery_cases hp with ⟨hq, _⟩ | ⟨q, hq, _, rfl⟩
    · exact hs.query p hq
    · exact hs.query q hq
  case fresh =>
    rcases preemptedQuery_cases hp with ⟨hq, _⟩ | ⟨q, hq, hearlier, rfl⟩
    · exact hs.fresh p hq hcommit
    · exact absurd hcommit hearlier
  case paired => exact absurd ht (by simp [hnone])

/-- The tick that takes the unit shares its cycle and its sample with a QUERY_LENGTH of this cycle, and
commits after one of an earlier cycle (R162). -/
theorem flightsDue_acceptTick {s : State} (hs : FlightsDue s) (hnone : s.tickFlight = none) (now : Time) :
    FlightsDue (acceptTick now s) := by
  have hpreempted := flightsDue_preemptedQuery hs hnone
  rcases acceptTick_cases now s with ⟨_, h⟩ | ⟨_, h⟩ <;> rw [h]
  · exact hpreempted.congr
  · refine ⟨?tick, hpreempted.query, hpreempted.fresh, ?paired⟩
    case tick =>
      rintro _ ⟨⟩
      exact ⟨Nat.le_add_right _ _, le_rfl⟩
    case paired =>
      rintro _ p ⟨⟩ hp
      rcases preemptedQuery_cases hp with ⟨hq, hshared⟩ | ⟨q, hq, hearlier, rfl⟩
      · obtain ⟨hkept, hraw⟩ := hs.fresh p hq hshared
        rw [hkept]
        exact ⟨hshared, hraw⟩
      · exact lt_of_le_of_ne (hs.query q hq).2 hearlier

theorem flightsDue_performTick {s : State} (hs : FlightsDue s) (taken : Bool) (now : Time) :
    FlightsDue (performTick (tickVerdict taken now s) now s) := by
  rcases performTick_cases taken now s with h | h | ⟨hnone, _, _, _, h⟩ <;> rw [h]
  · exact hs.congr
  · exact hs
  · exact flightsDue_acceptTick hs hnone now

/-- A QUERY_LENGTH that goes in flight finds no tick in flight (R95, R161). -/
theorem flightsDue_occupyWithQuery {s : State} (hs : FlightsDue s) (hfree : s.busy = false) :
    FlightsDue (occupyWithQuery s) := by
  have hnone := tickFlight_of_not_busy hfree
  unfold occupyWithQuery
  split
  · exact hs.congr
  · refine ⟨hs.tick, ?query, ?fresh, ?paired⟩
    case query =>
      rintro _ ⟨⟩
      exact ⟨Nat.le_add_right _ _, le_rfl⟩
    case fresh =>
      rintro _ ⟨⟩ _
      exact ⟨rfl, rfl⟩
    case paired =>
      rintro _ _ ht
      exact absurd ht (by simp [hnone])

/-! The positions of a cycle (R158). -/

theorem flightsDue_answerError {s : State} (hs : FlightsDue s) (f : Flag) (status : RspStatus) :
    FlightsDue (answerError f status s) := by
  unfold answerError
  exact hs.congr

theorem flightsDue_exec {i : Instr} {s c : State} (hs : FlightsDue s) (h : exec i s = .next c) :
    FlightsDue c := by
  rcases exec_cases h with ⟨_, _, rfl | rfl⟩ | ⟨_, rfl⟩ | ⟨_, rfl | ⟨hfree, rfl⟩⟩ | ⟨now, _, rfl⟩ |
    ⟨_, _, _, _, _, _, rfl⟩ | ⟨_, _, rfl⟩ | ⟨_, _, _, rfl⟩ | ⟨_, _, _, rfl⟩
  · exact hs.congr
  · exact hs.congr
  · exact hs.tick_leaves
  · exact hs.congr
  · exact flightsDue_occupyWithQuery hs hfree
  · exact (flightsDue_performTick hs false now).congr
  · exact hs.congr
  · exact hs.congr
  · exact hs.congr
  · exact flightsDue_answerError hs _ _

theorem flightsDue_commandPort {s c : State} (hs : FlightsDue s) (h : commandPort s = .next c) :
    FlightsDue c := by
  rcases commandPort_outcome h with ⟨_, rfl⟩ | ⟨_, _, _, rfl⟩ | ⟨_, _, _, hexec⟩
  · exact hs
  · exact flightsDue_answerError hs _ _
  · exact flightsDue_exec hs hexec

theorem flightsDue_stopPin {s : State} (hs : FlightsDue s) : FlightsDue (stopPin s) := by
  rcases stopPin_cases s with ⟨_, h⟩ | ⟨_, h⟩ <;> rw [h]
  · exact hs.tick_leaves
  · exact hs

theorem flightsDue_tickPort {s : State} (hs : FlightsDue s) (taken : Bool) :
    FlightsDue (tickPort taken s) := by
  rcases tickPort_cases taken s with ⟨_, h⟩ | ⟨_, h⟩ <;> rw [h]
  · exact hs
  · exact flightsDue_performTick hs taken _

/-- After position 4 no tick of this cycle is left. -/
theorem commitTick_leaves_none_due {s : State} {t : TickFlight} (h : (commitTick s).tickFlight = some t) :
    t.commitAt ≠ s.cycle := by
  rcases commitTick_cases s with ⟨f, _, _, hc⟩ | ⟨hlater, hc⟩ <;> rw [hc] at h
  · simp at h
  · exact hlater t h

theorem commitQuery_leaves_none_due {s : State} {q : QueryFlight}
    (h : (commitQuery s).queryFlight = some q) : q.commitAt ≠ s.cycle := by
  rcases commitQuery_cases s with ⟨p, _, _, hc⟩ | ⟨hlater, hc⟩ <;> rw [hc] at h
  · simp at h
  · exact hlater q h

theorem flightsDue_commitTick {s : State} (hs : FlightsDue s) : FlightsDue (commitTick s) := by
  rcases commitTick_cases s with ⟨f, _, _, h⟩ | ⟨_, h⟩ <;> rw [h]
  · exact hs.tick_leaves
  · exact hs

theorem flightsDue_commitQuery {s : State} (hs : FlightsDue s) : FlightsDue (commitQuery s) := by
  rcases commitQuery_cases s with ⟨q, _, _, h⟩ | ⟨_, h⟩ <;> rw [h]
  · exact hs.query_leaves
  · exact hs

/-- At the edge that opens a cycle no QUERY_LENGTH has the commit cycle of an operation accepted in it. -/
theorem flightsDue_of_timely {s : State} (hs : FlightsTimely s) : FlightsDue s := by
  obtain ⟨htick, hquery, hpaired⟩ := hs
  refine ⟨fun t ht => ?_, fun q hq => ?_, fun q hq hcommit => ?_, hpaired⟩
  · have := htick t ht
    exact ⟨this.1, this.2.le⟩
  · have := hquery q hq
    exact ⟨this.1, this.2.le⟩
  · exact absurd hcommit (hquery q hq).2.ne

/-- At the edge that closes a cycle, whose commits are made, the flights are timely in the next one. -/
theorem flightsTimely_closeCycle {start s : State} (hs : FlightsDue s) (hcycle : s.cycle = start.cycle)
    (htick : ∀ t, s.tickFlight = some t → t.commitAt ≠ s.cycle)
    (hquery : ∀ q, s.queryFlight = some q → q.commitAt ≠ s.cycle) : FlightsTimely (closeCycle start s) := by
  have hlast : s.commitCycle = s.cycle + s.build.extraLatency := rfl
  refine ⟨fun t ht => ?_, fun q hq => ?_, hs.paired⟩
  · have hne := htick t ht
    obtain ⟨hlow, hhigh⟩ := hs.tick t ht
    rw [closeCycle_cycle, closeCycle_build]
    omega
  · have hne := hquery q hq
    obtain ⟨hlow, hhigh⟩ := hs.query q hq
    rw [closeCycle_cycle, closeCycle_build]
    omega

/-- Nothing is in flight after a reset (R153). -/
theorem flightsTimely_resetWith (p : Config.Params) (cycle : Nat) (pins : PortInputs)
    (stimulus : List PortInputs) : FlightsTimely (State.resetWith p cycle pins stimulus) := by
  simp [FlightsTimely, State.resetWith]

/-- Settles O55: the flights are due at every position of a cycle, and the commits leave none of its own. -/
theorem everyStepKeepsFlightsTimely : Obligations.EveryStepKeepsFlightsTimely := by
  intro s t hs h
  rcases step_cases h with ⟨_, rfl⟩ | ⟨_, c, hc, rfl⟩
  · exact flightsTimely_resetWith _ _ _ _
  · have hbegin : FlightsDue (beginCycle s) := (flightsDue_of_timely hs).congr
    have hticked := flightsDue_tickPort (flightsDue_stopPin (flightsDue_commandPort hbegin hc))
      (commandTakesTick (beginCycle s))
    have hcommitted := flightsDue_commitQuery (flightsDue_commitTick hticked)
    obtain ⟨_, hcycle, _⟩ := sameCycle_commandPort hc
    refine flightsTimely_closeCycle hcommitted ?cycle (fun f hf => ?tick) (fun q hq => ?query)
    case cycle => simpa using hcycle
    case tick =>
      have hleft := (commitQuery_tickFlight _).symm.trans hf
      simpa using commitTick_leaves_none_due hleft
    case query => simpa using commitQuery_leaves_none_due hq

end Sys2Proof.Machine

/-! One command at position 1, and the step that performs it (30_encoding.md R61, R75; 43_register_access.md;
41_controller.md; 40_kinematics.md R95). -/

namespace Sys2Proof.Machine

open Sys2Proof.Safety

/-! The step and the words. -/

/-- Settles O5: each word is evaluated. -/
theorem writtenWordsDecode : Obligations.WrittenWordsDecode := by
  unfold Obligations.WrittenWordsDecode
  decide

/-- Settles O6: an accepted command is what the command port leaves to the other positions. -/
theorem stepRunsTheDecodedCommand : Obligations.StepRunsTheDecodedCommand :=
  fun _ _ _ haccepts hdecode hexec => step_of_command haccepts hdecode hexec

/-- Settles O7: a reset leaves a state, and so does the command port, whose cycle the step closes. -/
theorem everyStepAnswersNext : Obligations.EveryStepAnswersNext := by
  intro s
  cases hrst : s.pins.rst with
  | true => exact ⟨_, step_reset hrst⟩
  | false =>
    obtain ⟨c, hc⟩ := commandPort_next (beginCycle s)
    exact ⟨_, step_cycle hrst hc⟩

/-! The state after reset. -/

/-- Settles O10: the columns of R153 are the fields of `State.resetWith` for the default build. -/
theorem resetStateHasTheSpecsValues : Obligations.ResetStateHasTheSpecsValues :=
  ⟨rfl, rfl, rfl, rfl, rfl, rfl, rfl, rfl, rfl, rfl, rfl, rfl, rfl, rfl, ⟨rfl, rfl, rfl⟩, rfl, rfl, rfl, rfl,
    rfl, rfl, rfl, rfl, rfl, rfl, rfl, rfl, rfl, rfl⟩

/-- Settles O56: each invariant holds after a reset of every build, so after that of the default build. -/
theorem resetHasTheInvariants : Obligations.ResetHasTheInvariants := by
  obtain ⟨hout, hflight⟩ :=
    safeOutputs_resetWith .default 0 (PortInputs.idle (Config.encDraw 0)) []
  obtain ⟨hsnap, hduty, htarget⟩ :=
    withinConfig_resetWith .default 0 (PortInputs.idle (Config.encDraw 0)) []
  exact ⟨hout, hflight, hsnap, hduty, htarget, flightsTimely_resetWith _ _ _ _⟩

/-! Register access. -/

/-- Settles O11: NOP is its answer. -/
theorem nopAnswersOkAndChangesNothing : Obligations.NopAnswersOkAndChangesNothing := fun _ => rfl

/-- Settles O14: the three register commands meet in the ILLEGAL answer. -/
theorem unmappedIndexIsIllegal : Obligations.UnmappedIndexIsIllegal := by
  intro idx data s h
  rw [exec_cfgWrite_of_unmapped h, exec_cfgRead_of_unmapped h, exec_statRead_of_unmapped h,
    answerIllegal_eq]
  exact ⟨rfl, rfl, rfl⟩

theorem exec_cfgRead_of_mapped {idx : Idx} {r : CfgReg} (h : cfgRegAt idx = some r) (s : State) :
    exec (.cfgRead idx) s = .next (respond .ok (readCfg r s.cfg) s) := by
  simp [exec, execCfgRead, h]

/-- One row of R18: the index names `r`, and `r` reads as the number `v`. -/
theorem cfgRead_answers {idx : Idx} (r : CfgReg) {s : State} {v : Nat}
    (hr : cfgRegAt idx = some r) (hv : (readCfg r s.cfg).toNat = v) :
    ∃ t, exec (.cfgRead idx) s = .next t ∧ t.rspData.toNat = v ∧
      t = { s with rspValid := true, rspStatus := 0#2, rspData := t.rspData } :=
  ⟨_, exec_cfgRead_of_mapped hr s, hv, rfl⟩

/-- Settles O15, row by row of R18: no register is wider than 32 bits, so zero extension keeps its number. -/
theorem cfgReadReturnsTheRegister : Obligations.CfgReadReturnsTheRegister := by
  intro s
  simp only [List.forall_mem_cons]
  refine ⟨?ctrlCfg, ?l1, ?l2, ?offset, ?anchor, ?lmin, ?lmax, ?kp, ?dutyFs, ?minPeriod, ?irqMask, by simp⟩
  case ctrlCfg => exact cfgRead_answers .ctrlCfg rfl (BitVec.toNat_setWidth_of_le (by decide))
  case l1 => exact cfgRead_answers .l1 rfl (BitVec.toNat_setWidth_of_le (by decide))
  case l2 => exact cfgRead_answers .l2 rfl (BitVec.toNat_setWidth_of_le (by decide))
  case offset => exact cfgRead_answers .offset rfl (BitVec.toNat_setWidth_of_le (by decide))
  case anchor => exact cfgRead_answers .anchor rfl (BitVec.toNat_setWidth_of_le (by decide))
  case lmin => exact cfgRead_answers .lmin rfl (BitVec.toNat_setWidth_of_le (by decide))
  case lmax => exact cfgRead_answers .lmax rfl (BitVec.toNat_setWidth_of_le (by decide))
  case kp => exact cfgRead_answers .kp rfl (BitVec.toNat_setWidth_of_le (by decide))
  case dutyFs => exact cfgRead_answers .dutyFs rfl (BitVec.toNat_setWidth_of_le (by decide))
  case minPeriod => exact cfgRead_answers .minPeriod rfl rfl
  case irqMask => exact cfgRead_answers .irqMask rfl (BitVec.toNat_setWidth_of_le (by decide))

/-- Settles O18: the flags left are those outside the mask, and nothing else is written. -/
theorem clearFlagsClearsTheMaskedFlags : Obligations.ClearFlagsClearsTheMaskedFlags :=
  fun mask s => ⟨_, rfl, fun _ hn => getLsbD_clearedFlags s.flags mask hn, rfl⟩

/-! The diagnostic interrupt and the ports. -/

/-- `rst` does not gate `diag_irq` (R59, R141). -/
theorem outputs_diagIrq (s : State) : s.outputs.diagIrq = diagIrq s := by
  unfold State.outputs
  split <;> rfl

/-- Six bits are not all 0 exactly when one of them is 1. -/
theorem flagBits_ne_zero_iff (x : FlagBits) : x ≠ 0#6 ↔ ∃ n, n < 6 ∧ x.getLsbD n = true := by
  constructor
  · intro hne
    by_contra hnone
    push Not at hnone
    refine hne (BitVec.eq_of_getLsbD_eq fun n hn => ?_)
    simpa using hnone n hn
  · rintro ⟨n, _, hset⟩ rfl
    simp at hset

/-- Settles O21: the masked flags are not all 0 exactly when one flag is 1 together with its mask bit. -/
theorem diagIrqIsTheMaskedOr : Obligations.DiagIrqIsTheMaskedOr := by
  intro s
  rw [outputs_diagIrq, diagIrq, decide_eq_true_iff, flagBits_ne_zero_iff]
  simp only [BitVec.getLsbD_and, Bool.and_eq_true]

theorem portFree_iff (s : State) : s.portFree = true ↔ s.queryFlight = none :=
  Option.isNone_iff_eq_none

/-- Settles O59: the ports by the level of `rst`; the registered outputs read no port. -/
theorem outputPortsShowTheRegisters : Obligations.OutputPortsShowTheRegisters := by
  constructor
  · intro s
    cases hrst : s.pins.rst with
    | true =>
      rw [outputs_of_rst hrst]
      simp [PortOutputs.underReset, State.registeredOutputs]
    | false =>
      rw [outputs_eq_registered s hrst]
      simp [State.registeredOutputs, portFree_iff]
  · intro s p
    refine ⟨registeredOutputs_ignores_pins s p, fun hp => ?_, ?_⟩
    · simp only [State.outputs, hp, registeredOutputs_ignores_pins]
    · unfold State.outputs
      rw [registeredOutputs_ignores_pins]
      split <;> split <;> exact ⟨rfl, rfl, rfl, rfl⟩

/-! SET_TARGET and ESTOP. -/

/-- Settles O31: the flag is set or not by whether the clamp changed the operand. -/
theorem setTargetClampsAndEnables : Obligations.SetTargetClampsAndEnables := by
  intro target s
  have hclamp : clampedTarget s.cfg target =
      min (max target.toNat s.cfg.lmin.toNat) s.cfg.lmax.toNat := rfl
  rw [← hclamp]
  by_cases h : clampedTarget s.cfg target = target.toNat
  · simp [exec, execSetTarget, respond, RspStatus.code, h]
  · simp [exec, execSetTarget, respond, RspStatus.code, setFlag, Flag.mask, Flag.position, h]

/-- What a stop does to the tick in flight, written out (R164). -/
theorem abortTick_eq (s : State) :
    abortTick s =
      { s with
        tickFlight := none
        flags := if s.tickFlight.isSome then s.flags ||| 0b100000#6 else s.flags } := by
  unfold abortTick
  split
  next h => rw [h]; rfl
  next h => rw [h, if_neg (by simp), ← h]

/-- The emergency-stop effect written out (R101). -/
theorem eStopEffect_eq (s : State) :
    eStopEffect s =
      { s with
        enabled := false
        duty := 0#16
        pwmA := 0#15
        pwmB := 0#15
        tickFlight := none
        flags := if s.tickFlight.isSome then s.flags ||| 0b100000#6 else s.flags } := by
  rw [eStopEffect, setDuty_zero, abortTick_eq]

/-- Settles O33: ESTOP is the emergency-stop effect and its answer. -/
theorem estopStopsAndAborts : Obligations.EstopStopsAndAborts := by
  intro s
  have h : exec .estop s = .next (respond .ok 0#32 (eStopEffect s)) := rfl
  rw [h, eStopEffect_eq]
  rfl

/-! TICK. -/

/-- A TICK does what its verdict says and answers with it (R102, R113). -/
theorem exec_tick_of_verdict {v : TickVerdict} {now : Time} {s : State}
    (h : tickVerdict false now s = v) :
    exec (.tick now) s = .next (respond v.status v.data (performTick v now s)) := by
  rw [← h]
  rfl

/-- Settles O34: the three verdicts of a tick that is not applied, and what each does. -/
theorem tickNotAppliedWritesNothing : Obligations.TickNotAppliedWritesNothing := by
  intro now s
  refine ⟨fun hflight => ?dropped, fun hfree hoff => ?disabled, fun hfree hon hsoon => ?tooSoon⟩
  case dropped => exact exec_tick_of_verdict (tickVerdict_of_flight hflight false now)
  case disabled => exact exec_tick_of_verdict (tickVerdict_of_disabled hfree hoff now)
  case tooSoon =>
    have hearly := (elapsed_lt_iff now s.lastUpdate s.cfg.minPeriod).2 hsoon
    exact exec_tick_of_verdict (tickVerdict_of_tooSoon hfree hon hearly)

theorem preemptedQuery_of_none {s : State} (h : s.queryFlight = none) : s.preemptedQuery = none := by
  simp [State.preemptedQuery, h]

/-- Settles O35: with `T_LAT = 1` the accepted tick is applied on the sample of its own cycle. -/
theorem appliedTickDrivesTheDuty : Obligations.AppliedTickDrivesTheDuty := by
  intro now s hlat hfree hquery hon hperiod
  have hat : acceptTick now s = _ := if_pos ((tLat_eq_one_iff s).1 hlat)
  rw [exec_tick_of_passes ⟨hfree, hon, hperiod⟩, hat, preemptedQuery_of_none hquery, applyTick_eq,
    driveDuty_eq, ← hquery]
  rfl

/-- Settles O36: with `T_LAT > 1` the accepted tick takes its snapshot and waits. -/
theorem acceptedTickGoesInFlight : Obligations.AcceptedTickGoesInFlight := by
  intro now s hlat hfree hquery hon hperiod
  have hat : acceptTick now s = _ := if_neg ((one_lt_tLat_iff s).1 hlat)
  rw [exec_tick_of_passes ⟨hfree, hon, hperiod⟩, hat, preemptedQuery_of_none hquery, ← hquery]
  rfl

/-! QUERY_LENGTH. -/

/-- The answer of a QUERY_LENGTH is the fault in bit 31 and the length below it (R95). -/
theorem queryData_fields (c : CfgRegs) (raw : AngleCode) :
    (queryData c raw).getLsbD 31 = (kin c raw).2 ∧
    (queryData c raw).toNat % 2 ^ 31 = (kin c raw).1.toNat := by
  have hlen := (kin c raw).1.isLt
  constructor
  · simp only [queryData, bit, BitVec.getLsbD_append]
    simp
  · have hword : (queryData c raw).toNat =
        (bit (kin c raw).2).toNat * 2 ^ 31 + (kin c raw).1.toNat := by
      have happend : (queryData c raw).toNat =
          ((bit (kin c raw).2).toNat <<< 14 ||| 0) <<< 17 ||| (kin c raw).1.toNat := by
        unfold queryData
        erw [BitVec.toNat_append, BitVec.toNat_append]
        rfl
      rw [happend, Nat.or_zero, ← Nat.shiftLeft_add_eq_or_of_lt hlen, ← Nat.shiftLeft_add,
        Nat.shiftLeft_eq]
    omega

/-- Settles O30: the unit is occupied, or the answer is there at once, or the query is in flight. -/
theorem queryLengthAnswersOrOccupies : Obligations.QueryLengthAnswersOrOccupies := by
  intro s
  refine ⟨fun hbusy => ?busy, fun hfree hlat => ?atOnce, fun hfree hlat => ?inFlight⟩
  case busy => simp [exec, execQueryLength, hbusy, respond, RspStatus.code]
  case atOnce =>
    have hat : occupyWithQuery s = _ := if_pos ((tLat_eq_one_iff s).1 hlat)
    obtain ⟨hfault, hlen⟩ := queryData_fields s.cfg (encRead s)
    refine ⟨queryData s.cfg (encRead s), ?_, hfault, hlen⟩
    rw [exec, execQueryLength, hfree, hat]
    rfl
  case inFlight =>
    have hat : occupyWithQuery s = _ := if_neg ((one_lt_tLat_iff s).1 hlat)
    rw [exec, execQueryLength, hfree, hat]
    rfl

end Sys2Proof.Machine

/-! The cosine of a code and the length it gives (40_kinematics.md R88 to R93). -/

namespace Sys2Proof.Machine

/-! The quarter wave extended by symmetry (R90). -/

theorem cosCode_of_le_256 {k : Nat} (h : k ≤ 256) : cosCode k = (romCos k : Int) := if_pos h

theorem cosCode_of_second_quarter {k : Nat} (h : 256 < k) (h2 : k ≤ 512) :
    cosCode k = -(romCos (512 - k) : Int) := by
  rw [cosCode, if_neg h.not_ge, if_pos h2]

theorem cosCode_of_third_quarter {k : Nat} (h : 512 < k) (h2 : k ≤ 768) :
    cosCode k = -(romCos (k - 512) : Int) := by
  rw [cosCode, if_neg (by omega), if_neg h.not_ge, if_pos h2]

theorem cosCode_of_fourth_quarter {k : Nat} (h : 768 < k) : cosCode k = (romCos (1024 - k) : Int) := by
  rw [cosCode, if_neg (by omega), if_neg (by omega), if_neg h.not_ge]

/-- The cosine of a quarter turn is 0, which the quarters share. -/
theorem romCos_quarterTurn : romCos 256 = 0 := by decide +kernel

/-- The cosine is odd about a quarter turn. -/
theorem cosCode_reflect {k : Nat} (h : k ≤ 512) : cosCode (512 - k) = -cosCode k := by
  rcases lt_trichotomy k 256 with hk | rfl | hk
  · rw [cosCode_of_second_quarter (by omega) (by omega), cosCode_of_le_256 hk.le, Nat.sub_sub_self h]
  · rw [cosCode_of_le_256 le_rfl, romCos_quarterTurn]
    rfl
  · rw [cosCode_of_le_256 (by omega), cosCode_of_second_quarter hk h, neg_neg]

/-- The cosine is even, between 0 and a half turn. -/
theorem cosCode_mirror_of_lt {k : Nat} (h0 : 0 < k) (h : k < 512) : cosCode (1024 - k) = cosCode k := by
  rcases lt_trichotomy k 256 with hk | rfl | hk
  · rw [cosCode_of_fourth_quarter (by omega), cosCode_of_le_256 hk.le, Nat.sub_sub_self (by omega)]
  · rw [cosCode_of_third_quarter (by omega) (by omega), cosCode_of_le_256 le_rfl, romCos_quarterTurn]
    rfl
  · rw [cosCode_of_third_quarter (by omega) (by omega), cosCode_of_second_quarter hk h.le,
      show 1024 - k - 512 = 512 - k by omega]

theorem cosCode_mirror {k : Nat} (h : k ≤ 1023) : cosCode ((1024 - k) % 1024) = cosCode k := by
  rcases Nat.eq_zero_or_pos k with rfl | hpos
  · rfl
  · rw [Nat.mod_eq_of_lt (by omega)]
    rcases lt_trichotomy k 512 with hk | rfl | hk
    · exact cosCode_mirror_of_lt hpos hk
    · rfl
    · rw [← cosCode_mirror_of_lt (k := 1024 - k) (by omega) (by omega), Nat.sub_sub_self (by omega)]

/-- Settles O24: the two symmetries by quarters; at their common ends the ROM is 0 or the codes agree. -/
theorem cosineExtendsTheQuarterWave : Obligations.CosineExtendsTheQuarterWave :=
  ⟨fun _ h => cosCode_of_le_256 h, fun k _ => cosCode_bounds k, fun _ h => cosCode_mirror h,
    fun _ h => cosCode_reflect h⟩

/-- Settles O25: the table is evaluated. -/
theorem romHasTheCheckValues : Obligations.RomHasTheCheckValues := by
  unfold Obligations.RomHasTheCheckValues
  decide +kernel

/-! The length as a floor and along the branch (R91, R93). -/

/-- Dividing the root by 128 divides the radicand by 16384, with the floor taken once. -/
theorem lengthOf_floor {l1 l2 : BitVec 16} {c : Int} (h : 0 ≤ radicand l1 l2 c) :
    16384 * ((lengthOf l1 l2 c : Int) * lengthOf l1 l2 c) ≤ radicand l1 l2 c ∧
    radicand l1 l2 c < 16384 * (((lengthOf l1 l2 c : Int) + 1) * ((lengthOf l1 l2 c : Int) + 1)) := by
  obtain ⟨n, hn⟩ := Int.eq_ofNat_of_zero_le h
  obtain ⟨hlow, hhigh⟩ := isqrt_spec n
  have hlen : lengthOf l1 l2 c = isqrt n / 128 := by
    rw [lengthOf_eq_div, hn, Int.toNat_natCast]
    rfl
  have hfrom : 128 * (isqrt n / 128) ≤ isqrt n := Nat.mul_div_le _ _
  have hto : isqrt n + 1 ≤ 128 * (isqrt n / 128 + 1) := by omega
  have hfrom2 := Nat.mul_self_le_mul_self hfrom
  have hto2 := Nat.mul_self_le_mul_self hto
  rw [hn, hlen]
  constructor
  · zify at hlow hfrom2
    push_cast
    linarith
  · zify at hhigh hto2
    push_cast
    linarith

/-- Settles O27: the radicand is never negative, and the length is the floor of its root over 128. -/
theorem kinIsTheFloorOfTheLawOfCosines : Obligations.KinIsTheFloorOfTheLawOfCosines := by
  intro c raw cosine r len
  obtain ⟨hlow, hhigh⟩ := cosCode_bounds (jointOf c raw % 1024).toNat
  have hlen : len = (lengthOf c.l1 c.l2 cosine : Int) :=
    congrArg Nat.cast (toNat_lengthAt c (jointOf c raw))
  rw [hlen]
  exact lengthOf_floor (radicand_fits c.l1 c.l2 hlow hhigh).1

/-- The cosine does not grow from a code to the next, up to a half turn (R92). -/
theorem cosCode_step {k : Nat} (h : k < 512) : cosCode (k + 1) ≤ cosCode k := by
  rcases lt_or_ge k 256 with hk | hk
  · rw [cosCode_of_le_256 hk.le, cosCode_of_le_256 (by omega)]
    exact_mod_cast romCos_step k hk
  · have hstep := romCos_step (511 - k) (by omega)
    have hreflect := cosCode_reflect (k := k) h.le
    rw [cosCode_of_le_256 (by omega)] at hreflect
    rw [cosCode_of_second_quarter (by omega) (by omega)]
    rw [show 511 - k + 1 = 512 - k by omega] at hstep
    rw [show 512 - (k + 1) = 511 - k by omega]
    omega

theorem cosCode_antitone {j k : Nat} (hjk : j ≤ k) (hk : k ≤ 512) : cosCode k ≤ cosCode j := by
  induction k, hjk using Nat.le_induction with
  | base => exact le_rfl
  | succ k _ ih => exact (cosCode_step (by omega)).trans (ih (by omega))

/-- A smaller cosine gives no smaller length (R88). -/
theorem lengthOf_antitone (l1 l2 : BitVec 16) {c d : Int} (h : c ≤ d) :
    lengthOf l1 l2 d ≤ lengthOf l1 l2 c := by
  have hproduct := mul_le_mul_of_nonneg_left h (toNat_mul_toNat_bounds l1 l2).1
  have hradicand : radicand l1 l2 d ≤ radicand l1 l2 c := by
    unfold radicand
    linarith
  rw [lengthOf_eq_div, lengthOf_eq_div]
  exact Nat.div_le_div_right (isqrt_mono (Int.toNat_le_toNat hradicand))

/-- Settles O29: along the branch the cosine falls, so the radicand and its root grow. -/
theorem lengthGrowsAlongTheBranch : Obligations.LengthGrowsAlongTheBranch := by
  intro c j k hj hjk hk
  rw [toNat_lengthAt, toNat_lengthAt]
  refine lengthOf_antitone _ _ (cosCode_antitone ?_ ?_) <;> omega

/-! The table against the real cosine (R92). The cosines of the multiples of `π/512` follow from that of
`π/512` by the recurrence of `cosBounds`, whose errors stay below the rounding when it starts at this scale. -/

/-- Half the scale of the integer approximations: the recurrence loses some 330 bits over 256 steps. -/
def cosHalfScale : Nat := 2 ^ 399

/-- The scale of the integer approximations. -/
def cosScale : Nat := 2 * cosHalfScale

/-- The approximation of `cosScale * cos(π/512)` from below, by eight nested square roots. -/
def cosStart : Nat := (rootBounds cosHalfScale 8).1

/-- The width of its enclosure. -/
def cosStartError : Nat := (rootBounds cosHalfScale 8).2 - (rootBounds cosHalfScale 8).1

/-- An approximation with its error bound fixes the rounding of `32768 / T` times the number to `r`. -/
def roundsTo (T : Int) (b : Int × Int) (r : Nat) : Bool :=
  decide ((2 * (r : Int) - 1) * T ≤ 65536 * (b.1 - b.2)) &&
    decide (65536 * (b.1 + b.2) < (2 * (r : Int) + 1) * T)

theorem floor_of_roundsTo {T : Int} {b : Int × Int} {r : Nat} {x : ℝ} (hT : 0 < T)
    (hx : |T * x - b.1| ≤ b.2) (h : roundsTo T b r = true) : (r : Int) = ⌊(32768 : ℝ) * x + 1 / 2⌋ := by
  simp only [roundsTo, Bool.and_eq_true, decide_eq_true_eq] at h
  obtain ⟨hlow, hhigh⟩ := h
  have hT' : (0 : ℝ) < T := by exact_mod_cast hT
  have hlow' : (2 * (r : ℝ) - 1) * T ≤ 65536 * (b.1 - b.2) := by exact_mod_cast hlow
  have hhigh' : 65536 * (b.1 + b.2) < (2 * (r : ℝ) + 1) * T := by exact_mod_cast hhigh
  obtain ⟨hx1, hx2⟩ := abs_le.1 hx
  have hfrom : (2 * (r : ℝ) - 1) * T ≤ 65536 * x * T := by linarith
  have hto : 65536 * x * T < (2 * (r : ℝ) + 1) * T := by linarith
  have hfrom2 := le_of_mul_le_mul_right hfrom hT'
  have hto2 := lt_of_mul_lt_mul_right hto hT'.le
  symm
  rw [Int.floor_eq_iff]
  push_cast
  constructor <;> linarith

/-- Every entry of a table against the approximations that follow `p` and `q` in the recurrence. -/
def tableRounds (T A e : Int) : List Nat → Int × Int → Int × Int → Bool
  | [], _, _ => true
  | r :: rs, p, q =>
    roundsTo T p r &&
      tableRounds T A e rs q (2 * A * q.1 / T - p.1, 2 * q.2 + p.2 + 2 * e + 1)

/-- `tableRounds` walks along `cosBounds`. -/
theorem roundsTo_of_tableRounds {T A e : Int} {rs : List Nat} : ∀ {n : Nat},
    tableRounds T A e rs (cosBounds T A e n).1 (cosBounds T A e n).2 = true →
    ∀ i, i < rs.length → roundsTo T (cosBounds T A e (n + i)).1 (rs.getD i 0) = true := by
  induction rs with
  | nil =>
    intro n _ i hi
    exact absurd hi (Nat.not_lt_zero i)
  | cons r rs ih =>
    intro n h i hi
    rw [tableRounds, Bool.and_eq_true] at h
    obtain ⟨hentry, hrest⟩ := h
    cases i with
    | zero => exact hentry
    | succ i =>
      have hnext := ih (n := n + 1) hrest i (Nat.lt_of_succ_lt_succ hi)
      rwa [Nat.add_right_comm] at hnext

/-- The start of the recurrence is enclosed (R92). -/
theorem cosStart_encloses :
    |((cosScale : Int) : ℝ) * Real.cos (Real.pi / 512) - ((cosStart : Int) : ℝ)| ≤
      ((cosStartError : Int) : ℝ) := by
  obtain ⟨hlow, hhigh⟩ := rootBounds_spec cosHalfScale 8
  have hcos : ((cosScale : Int) : ℝ) * Real.cos (Real.pi / 512) =
      (cosHalfScale : ℝ) * Real.sqrtTwoAddSeries 0 8 := by
    have hhalf := Real.cos_pi_over_two_pow 8
    rw [show (2 : ℝ) ^ (8 + 1) = 512 by norm_num] at hhalf
    rw [hhalf, cosScale]
    push_cast
    ring
  have horder : (rootBounds cosHalfScale 8).1 ≤ (rootBounds cosHalfScale 8).2 := by
    exact_mod_cast hlow.trans hhigh
  have herror : ((cosStartError : Int) : ℝ) =
      ((rootBounds cosHalfScale 8).2 : ℝ) - ((rootBounds cosHalfScale 8).1 : ℝ) := by
    rw [cosStartError]
    push_cast [horder]
    rfl
  have hstart : ((cosStart : Int) : ℝ) = ((rootBounds cosHalfScale 8).1 : ℝ) := Int.cast_natCast _
  rw [hcos, herror, hstart, abs_le]
  constructor <;> linarith

theorem cosStart_le_cosScale : (cosStart : Int) ≤ cosScale := by
  decide +kernel

theorem romTable_rounds :
    tableRounds cosScale cosStart cosStartError romTable (cosScale, 0) (cosStart, cosStartError) = true := by
  decide +kernel

/-- Settles O26: each entry is the rounding of an approximation whose error the scale keeps small enough. -/
theorem romIsTheRoundedCosine : Obligations.RomIsTheRoundedCosine := by
  intro k hk
  have hT : (0 : Int) < cosScale := by decide +kernel
  have hangle : 2 * Real.pi * (k : ℝ) / 1024 = k * (Real.pi / 512) := by ring
  have hlength : romTable.length = 257 := by decide +kernel
  have hbound := (cosBounds_spec cosScale cosStart cosStartError (Real.pi / 512) hT (Int.natCast_nonneg _)
    cosStart_le_cosScale cosStart_encloses k).1
  have hrounds := roundsTo_of_tableRounds (n := 0) romTable_rounds k (by omega)
  rw [Nat.zero_add] at hrounds
  rw [hangle]
  exact floor_of_roundsTo hT hbound hrounds

end Sys2Proof.Machine

/-! A tick over a whole cycle: accepted, committed, left alone, aborted (41_controller.md R102 to R112;
70_reset_and_hazards.md R158 to R164; 20_memory.md R52, R54, R55). -/

namespace Sys2Proof.Machine

open Sys2Proof.Safety

/-! An accepted tick. -/

theorem acceptTick_of_one {s : State} (h : s.build.extraLatency = 0) (now : Time) :
    acceptTick now s =
      applyTick (tickSnapshot now s) { markSampled s with queryFlight := s.preemptedQuery } := if_pos h

theorem acceptTick_of_more {s : State} (h : s.build.extraLatency ≠ 0) (now : Time) :
    acceptTick now s =
      { markSampled s with
        queryFlight := s.preemptedQuery
        tickFlight := some { commitAt := s.commitCycle, snap := tickSnapshot now s } } := if_neg h

@[simp] theorem acceptTick_queryFlight (now : Time) (s : State) :
    (acceptTick now s).queryFlight = s.preemptedQuery := by
  rcases acceptTick_cases now s with ⟨_, h⟩ | ⟨_, h⟩ <;> simp [h]

@[simp] theorem acceptTick_encStrobe (now : Time) (s : State) : (acceptTick now s).encStrobe = true := by
  rcases acceptTick_cases now s with ⟨_, h⟩ | ⟨_, h⟩ <;> simp [h]

/-- A tick accepted with no tick in flight does not commit at position 4 of its own cycle (R160). -/
theorem acceptTick_not_due {s : State} (hfree : s.tickFlight = none) (now : Time) (f : TickFlight)
    (hf : (acceptTick now s).tickFlight = some f) : f.commitAt ≠ s.cycle := by
  rcases acceptTick_cases now s with ⟨_, h⟩ | ⟨hlat, h⟩ <;> rw [h] at hf
  · simp [hfree] at hf
  · cases hf
    exact commitCycle_ne_cycle hlat

/-! Raised flags leave every other register. -/

@[simp] theorem raiseFlags_cfg (m : FlagBits) (s : State) : (raiseFlags m s).cfg = s.cfg := rfl
@[simp] theorem raiseFlags_enabled (m : FlagBits) (s : State) : (raiseFlags m s).enabled = s.enabled := rfl
@[simp] theorem raiseFlags_target (m : FlagBits) (s : State) : (raiseFlags m s).target = s.target := rfl
@[simp] theorem raiseFlags_duty (m : FlagBits) (s : State) : (raiseFlags m s).duty = s.duty := rfl
@[simp] theorem raiseFlags_pwmA (m : FlagBits) (s : State) : (raiseFlags m s).pwmA = s.pwmA := rfl
@[simp] theorem raiseFlags_pwmB (m : FlagBits) (s : State) : (raiseFlags m s).pwmB = s.pwmB := rfl
@[simp] theorem raiseFlags_lastTickFault (m : FlagBits) (s : State) :
    (raiseFlags m s).lastTickFault = s.lastTickFault := rfl
@[simp] theorem raiseFlags_lastLength (m : FlagBits) (s : State) :
    (raiseFlags m s).lastLength = s.lastLength := rfl
@[simp] theorem raiseFlags_lastRaw (m : FlagBits) (s : State) : (raiseFlags m s).lastRaw = s.lastRaw := rfl
@[simp] theorem raiseFlags_lastUpdate (m : FlagBits) (s : State) :
    (raiseFlags m s).lastUpdate = s.lastUpdate := rfl
@[simp] theorem raiseFlags_tickCount (m : FlagBits) (s : State) :
    (raiseFlags m s).tickCount = s.tickCount := rfl
@[simp] theorem raiseFlags_tickFlight (m : FlagBits) (s : State) :
    (raiseFlags m s).tickFlight = s.tickFlight := rfl
@[simp] theorem raiseFlags_queryFlight (m : FlagBits) (s : State) :
    (raiseFlags m s).queryFlight = s.queryFlight := rfl
@[simp] theorem raiseFlags_rspValid (m : FlagBits) (s : State) :
    (raiseFlags m s).rspValid = s.rspValid := rfl
@[simp] theorem raiseFlags_rspStatus (m : FlagBits) (s : State) :
    (raiseFlags m s).rspStatus = s.rspStatus := rfl
@[simp] theorem raiseFlags_rspData (m : FlagBits) (s : State) :
    (raiseFlags m s).rspData = s.rspData := rfl
@[simp] theorem raiseFlags_encStrobe (m : FlagBits) (s : State) :
    (raiseFlags m s).encStrobe = s.encStrobe := rfl
@[simp] theorem raiseFlags_cycle (m : FlagBits) (s : State) : (raiseFlags m s).cycle = s.cycle := rfl

/-! The cycle after the command port, by what is due in it. -/

/-- The flags that a tick-port request raises when it is not accepted: none, or TICK_OVERRUN (R66, R102). -/
def OverrunAtMost (s : State) (m : FlagBits) : Prop :=
  m = 0#6 ∨ (s.pins.tickValid = true ∧ m = Flag.tickOverrun.mask)

theorem OverrunAtMost.eq_zero_of_idle {s : State} {m : FlagBits} (h : OverrunAtMost s m)
    (hidle : s.pins.tickValid = false) : m = 0#6 := by
  rcases h with hm | ⟨hvalid, _⟩
  · exact hm
  · simp [hidle] at hvalid

/-- TICK_ABORTED is left to the stops (R164). -/
theorem OverrunAtMost.aborted_clear {s : State} {m : FlagBits} (h : OverrunAtMost s m) :
    m.getLsbD 5 = false := by
  rcases h with rfl | ⟨_, rfl⟩ <;> decide

theorem tickPort_raises {taken : Bool} {s : State}
    (h : s.pins.tickValid = true → tickVerdict taken s.pins.tickNow s ≠ .accepted) :
    ∃ m, OverrunAtMost s m ∧ tickPort taken s = raiseFlags m s := by
  cases hvalid : s.pins.tickValid with
  | false => exact ⟨0#6, .inl rfl, by simp [tickPort_of_idle hvalid, raiseFlags]⟩
  | true =>
    rcases tickPort_of_not_accepted h with hp | hp
    · exact ⟨0#6, .inl rfl, by simp [hp, raiseFlags]⟩
    · exact ⟨_, .inr ⟨hvalid, rfl⟩, hp⟩

theorem commits_of_nothing_due {s : State} (htick : ∀ f, s.tickFlight = some f → f.commitAt ≠ s.cycle)
    (hquery : ∀ q, s.queryFlight = some q → q.commitAt ≠ s.cycle) : commits s = s := by
  rw [commits, commitTick_of_not_due htick, commitQuery_of_not_due hquery]

/-- With a tick in flight and no stop pin, positions 2 and 3 raise TICK_OVERRUN at most (R163). -/
theorem afterCommand_of_flight {s : State} (hstop : s.pins.estopReq = false)
    (hflight : s.tickFlight.isSome = true) (taken : Bool) :
    ∃ m, OverrunAtMost s m ∧ afterCommand taken s = commits (raiseFlags m s) := by
  obtain ⟨m, hm, hport⟩ := tickPort_raises (taken := taken) (s := s)
    fun _ => by simp [tickVerdict_of_flight hflight]
  exact ⟨m, hm, by rw [afterCommand, stopPin_of_idle hstop, hport]⟩

/-- Before its commit cycle, without a stop pin, a tick in flight stays as it is (R160). -/
theorem afterCommand_of_waiting {s : State} {f : TickFlight} (hstop : s.pins.estopReq = false)
    (hflight : s.tickFlight = some f) (hlater : f.commitAt ≠ s.cycle) (taken : Bool) :
    ∃ m, OverrunAtMost s m ∧ afterCommand taken s = commitQuery (raiseFlags m s) := by
  obtain ⟨m, hm, hafter⟩ := afterCommand_of_flight hstop (by simp [hflight]) taken
  have hwait : commitTick (raiseFlags m s) = raiseFlags m s :=
    commitTick_of_not_due fun g hg => Option.some.inj (hflight.symm.trans hg) ▸ hlater
  exact ⟨m, hm, by rw [hafter, commits, hwait]⟩

/-- In the commit cycle of a tick in flight, without a stop pin, the tick is applied on its snapshot (R160). -/
theorem afterCommand_of_due {s : State} {f : TickFlight} (hstop : s.pins.estopReq = false)
    (hflight : s.tickFlight = some f) (hdue : f.commitAt = s.cycle) (taken : Bool) :
    ∃ m, OverrunAtMost s m ∧ afterCommand taken s =
      commitQuery (applyTick f.snap { raiseFlags m s with tickFlight := none }) := by
  obtain ⟨m, hm, hafter⟩ := afterCommand_of_flight hstop (by simp [hflight]) taken
  have hcommit : commitTick (raiseFlags m s) = applyTick f.snap { raiseFlags m s with tickFlight := none } :=
    commitTick_of_due hflight hdue
  exact ⟨m, hm, by rw [hafter, commits, hcommit]⟩

/-- The step of such a cycle, from what the command port left. -/
theorem step_of_due {s c : State} {f : TickFlight} (hrst : s.pins.rst = false)
    (hstop : s.pins.estopReq = false) (hc : commandPort (beginCycle s) = .next c)
    (hflight : c.tickFlight = some f) (hdue : f.commitAt = s.cycle) :
    ∃ m, OverrunAtMost s m ∧ step s = .next (closeCycle s
      (commitQuery (applyTick f.snap { raiseFlags m c with tickFlight := none }))) := by
  obtain ⟨_, hcycle, hpins⟩ := sameCycle_commandPort hc
  rw [beginCycle_cycle] at hcycle
  rw [beginCycle_pins] at hpins
  obtain ⟨m, hm, hafter⟩ := afterCommand_of_due (s := c) (by rw [hpins, hstop]) hflight
    (by rw [hcycle, hdue]) (commandTakesTick (beginCycle s))
  refine ⟨m, by rwa [OverrunAtMost, ← hpins], ?_⟩
  rw [step_cycle hrst hc, hafter]

/-- After the command port only the stop pin changes ENABLED (R97, R158). -/
theorem afterCommand_enabled (taken : Bool) (s : State) :
    (afterCommand taken s).enabled = (s.enabled && !s.pins.estopReq) := by
  rcases stopPin_cases s with ⟨hstop, h⟩ | ⟨hstop, h⟩ <;> simp [afterCommand, h, hstop]

/-- A command other than ESTOP leaves the tick in flight, the records and the drive. -/
theorem commandPort_keeps_flight {s c : State} (h : commandPort s = .next c)
    (hflight : s.tickFlight.isSome = true)
    (hrun : ¬ (s.accepts = true ∧ decode s.pins.cmdWord = .command .estop)) :
    c.tickFlight = s.tickFlight ∧ SameRecords s c ∧ SameDrive s c := by
  rcases commandPort_outcome h with ⟨_, rfl⟩ | ⟨_, _, _, rfl⟩ | ⟨i, haccepts, hdecode, hexec⟩
  · exact ⟨rfl, ⟨rfl, rfl, rfl, rfl, rfl⟩, ⟨rfl, rfl, rfl⟩⟩
  · exact ⟨rfl, ⟨rfl, rfl, rfl, rfl, rfl⟩, ⟨rfl, rfl, rfl⟩⟩
  · rcases exec_tick_cases hexec with ⟨_, _, ⟨hfree, _, _⟩, _⟩ | ⟨_, hrecords, ⟨rfl, _⟩ | ⟨_, hkept, hdrive⟩⟩
    · simp [hfree] at hflight
    · exact absurd ⟨haccepts, hdecode⟩ hrun
    · exact ⟨hkept, hrecords, hdrive⟩

theorem commandPort_of_command {s : State} {i : Instr} (haccepts : s.accepts = true)
    (hdecode : decode s.pins.cmdWord = .command i) : commandPort s = exec i s :=
  (commandPort_of_accepts haccepts).trans (perform_of_command hdecode s)

/-- What SET_TARGET leaves to the rest of the cycle (R98). -/
theorem commandPort_setTarget {s c : State} {target : Data} (haccepts : s.accepts = true)
    (hdecode : decode s.pins.cmdWord = .command (.setTarget target)) (h : commandPort s = .next c) :
    c.target = BitVec.ofNat 17 (clampedTarget s.cfg target) ∧ c.enabled = true ∧ c.cfg = s.cfg := by
  have hexec := (commandPort_of_command haccepts hdecode).symm.trans h
  rw [setTargetClampsAndEnables] at hexec
  cases hexec
  exact ⟨rfl, rfl, rfl⟩

/-- What STAT_READ of a mapped register leaves to the rest of the cycle (R130). -/
theorem commandPort_statRead {s c : State} {idx : Idx} {r : StatReg} (haccepts : s.accepts = true)
    (hdecode : decode s.pins.cmdWord = .command (.statRead idx)) (hr : statRegAt idx = some r)
    (h : commandPort s = .next c) : c = respond .ok (statVal r s) s := by
  have hexec := (commandPort_of_command haccepts hdecode).symm.trans h
  rw [exec_statRead_of_mapped hr] at hexec
  exact (Host.Outcome.next.inj hexec).symm

/-- No status register reads the response register or the strobe (R39). -/
theorem statVal_beginCycle (r : StatReg) (s : State) : statVal r (beginCycle s) = statVal r s := by
  cases r <;> rfl

theorem holdsDuty_of_fault {snap : Snapshot} (h : (kin snap.cfg snap.raw).2 = true) :
    holdsDuty snap = snap.cfg.ctrlCfg.getLsbD 1 := by
  rw [holdsDuty, h, Bool.true_and]

theorem holdsDuty_of_clean {snap : Snapshot} (h : (kin snap.cfg snap.raw).2 = false) :
    holdsDuty snap = false := by
  rw [holdsDuty, h, Bool.false_and]

theorem commandedDuty_of_fault {snap : Snapshot} (h : (kin snap.cfg snap.raw).2 = true) :
    commandedDuty snap = 0 := if_pos h

theorem commandedDuty_of_clean {snap : Snapshot} (h : (kin snap.cfg snap.raw).2 = false) :
    commandedDuty snap = pLaw snap.cfg.kp snap.cfg.dutyFs
      ((snap.target.toNat : Int) - (kin snap.cfg snap.raw).1.toNat) := if_neg (by simp [h])

/-- Settles O44: whatever the command port and the tick port do, the tick in flight reaches position 4 with its
snapshot, and its records and its drive are those of `applyTick`. -/
theorem flightCommitsInItsCycle : Obligations.FlightCommitsInItsCycle := by
  intro s f hrst hnostop hflight hdue len fault d
  obtain ⟨hpin, hrun⟩ := not_or.1 hnostop
  have hstop : s.pins.estopReq = false := Bool.eq_false_iff.2 hpin
  obtain ⟨c, hc⟩ := commandPort_next (beginCycle s)
  obtain ⟨hkept, ⟨hcount, _⟩, hduty, hpwmA, hpwmB⟩ :=
    commandPort_keeps_flight hc (by simp [hflight]) hrun
  obtain ⟨m, hm, hstep⟩ := step_of_due hrst hstop hc (hkept.trans hflight) hdue
  refine ⟨_, hstep, by simp, by simp, by simp [len], by simp [fault], by simp, by simpa using hcount,
    fun hclean => ?law, fun hfault => ⟨?flag, fun hzero => ?zero, fun hhold => ?hold⟩, fun hidle => ?idle,
    fun target haccepts hdecode => ?setTarget, fun idx r haccepts hdecode hr => ?statRead⟩
  case law =>
    simp [applyTick_duty, applyTick_pwmA, applyTick_pwmB, holdsDuty_of_clean hclean,
      commandedDuty_of_clean hclean, d, len]
  case flag => simp [applyTick_flags, show (kin f.snap.cfg f.snap.raw).2 = true from hfault]
  case zero =>
    have hheld : holdsDuty f.snap = false := (holdsDuty_of_fault hfault).trans hzero
    simp [ChannelsOff, applyTick_duty, applyTick_pwmA, applyTick_pwmB, hheld, commandedDuty_of_fault hfault]
  case hold =>
    have hheld : holdsDuty f.snap = true := (holdsDuty_of_fault hfault).trans hhold
    simp [applyTick_duty, applyTick_pwmA, applyTick_pwmB, hheld, hduty, hpwmA, hpwmB]
  case idle =>
    obtain ⟨_, hvalid, htick, _⟩ := hidle
    have hquiet : commandPort (beginCycle s) = .next (beginCycle s) := by
      simp [commandPort, State.accepts, hvalid]
    obtain rfl := Host.Outcome.next.inj (hquiet.symm.trans hc)
    simp [applyTick_flags, hm.eq_zero_of_idle htick, fault]
  case setTarget =>
    obtain ⟨htarget, hon, hcfg⟩ := commandPort_setTarget (s := beginCycle s) haccepts hdecode hc
    simp [htarget, hon, hcfg, clampedTarget, clampNat]
  case statRead =>
    obtain rfl := commandPort_statRead (s := beginCycle s) haccepts hdecode hr hc
    obtain ⟨_, _, hquery⟩ := of_accepts haccepts
    rw [commitQuery_of_none (by simp [hquery])]
    simp [statVal_beginCycle, RspStatus.code]

/-- Settles O45: SET_TARGET leaves the flight and the drive; before the commit cycle nothing is due, and in it
the snapshot's target counts. -/
theorem setTargetLeavesTheFlightAlone : Obligations.SetTargetLeavesTheFlightAlone := by
  intro s f target haccepts hdecode hstop hflight
  obtain ⟨hrst, _, hquery⟩ := of_accepts haccepts
  obtain ⟨c, hc⟩ := commandPort_next (beginCycle s)
  obtain ⟨hkept, _, hduty, hpwmA, hpwmB⟩ := commandPort_keeps_flight hc (by simp [hflight])
    (by rintro ⟨_, hestop⟩; simp [hdecode] at hestop)
  obtain ⟨htarget, hon, _⟩ := commandPort_setTarget (s := beginCycle s) haccepts hdecode hc
  obtain ⟨_, hcycle, hpins⟩ := sameCycle_commandPort hc
  have hcflight : c.tickFlight = some f := hkept.trans hflight
  have hcstop : c.pins.estopReq = false := by rw [hpins]; exact hstop
  have hccycle : c.cycle = s.cycle := hcycle
  refine ⟨_, step_cycle hrst hc, ?target, ?enabled, fun hlater => ?waits, fun hdue => ?commits⟩
  case target => simp [htarget, clampedTarget, clampNat]
  case enabled => simp [afterCommand_enabled, hon, hcstop]
  case waits =>
    obtain ⟨m, _, hafter⟩ := afterCommand_of_waiting hcstop hcflight (hccycle ▸ hlater)
      (commandTakesTick (beginCycle s))
    simp [hafter, hcflight, hduty, hpwmA, hpwmB]
  case commits =>
    obtain ⟨m, _, hafter⟩ := afterCommand_of_due hcstop hcflight (hdue.trans hccycle.symm)
      (commandTakesTick (beginCycle s))
    refine ⟨by simp [hafter], fun hclean => ?_⟩
    simp [hafter, applyTick_duty, holdsDuty_of_clean hclean, commandedDuty_of_clean hclean]

/-! A tick-port request beside a command-port TICK (R66, R163). -/

/-- What a request loads into no register can be put back. -/
theorem eq_respond_restored {s t : State} (hvalid : t.rspValid = s.rspValid)
    (hstatus : t.rspStatus = s.rspStatus) (hdata : t.rspData = s.rspData) (st : RspStatus) (d : Data) :
    t = { respond st d t with
      rspValid := s.rspValid, rspStatus := s.rspStatus, rspData := s.rspData } := by
  rw [← hvalid, ← hstatus, ← hdata]
  rfl

/-- A request behind an accepted command-port TICK is recorded, whatever the stop pin does (log 8). -/
theorem afterCommand_taken_sets_overrun {s : State} (hvalid : s.pins.tickValid = true) :
    (afterCommand true s).flags.getLsbD 2 = true := by
  have hdropped : tickPort true (stopPin s) = setFlag .tickOverrun (stopPin s) :=
    tickPort_of_taken (by simpa using hvalid)
  have hset : (setFlag .tickOverrun (stopPin s)).flags.getLsbD 2 = true := by
    rw [setFlag_flags, BitVec.getLsbD_or]
    simp [Flag.mask, Flag.position]
  rw [afterCommand, hdropped]
  exact (onlySetsFlags_commitQuery.comp onlySetsFlags_commitTick).keeps_flag hset

/-- After an accepted command-port TICK a cycle without a stop only drops the tick-port request. -/
theorem afterCommand_acceptTick {s : State} {now : Time} (hfree : s.tickFlight = none)
    (hquery : s.queryFlight = none) (hstop : s.pins.estopReq = false) (hvalid : s.pins.tickValid = true) :
    afterCommand true (respond .ok 0#32 (acceptTick now s)) =
      setFlag .tickOverrun (respond .ok 0#32 (acceptTick now s)) := by
  have hdropped : tickPort true (respond .ok 0#32 (acceptTick now s)) = _ :=
    tickPort_of_taken (by simpa using hvalid)
  rw [afterCommand, stopPin_of_idle (by simpa using hstop), hdropped]
  refine commits_of_nothing_due (fun f hf => ?_) (by simp [preemptedQuery_of_none hquery])
  simpa using acceptTick_not_due hfree now f hf

/-- Settles O41: both ports perform the same tick; behind a command-port TICK the request is dropped. -/
theorem tickPortIsTheCommandWithoutResponse : Obligations.TickPortIsTheCommandWithoutResponse := by
  refine ⟨fun s hvalid => ?command, fun s hvalid => tickPort_of_taken hvalid,
    fun s now haccepts hdecode hpasses hvalid hstop => ?dropped,
    fun s now haccepts hdecode hpasses hvalid hstop => ?stopped⟩
  case command =>
    refine ⟨_, rfl, ?_⟩
    rw [tickPort, if_pos hvalid]
    exact eq_respond_restored (by simp) (by simp) (by simp) _ _
  case dropped =>
    obtain ⟨_, _, hquery⟩ := of_accepts haccepts
    obtain ⟨hfree, _, _⟩ := id hpasses
    refine ⟨_, step_of_passing_tick haccepts hdecode hpasses,
      afterCommand_taken_sets_overrun (by simpa using hvalid), ?_⟩
    rw [afterCommand_acceptTick (s := beginCycle s) hfree hquery hstop hvalid]
    refine ⟨rfl, rfl, rfl, fun hlat => ?atOnce, fun hlat => ?inFlight⟩
    case atOnce =>
      rw [acceptTick_of_one (s := beginCycle s) ((tLat_eq_one_iff s).1 hlat)]
      simp [tickSnapshot, encRead, hfree]
    case inFlight =>
      rw [acceptTick_of_more (s := beginCycle s) ((one_lt_tLat_iff s).1 hlat)]
      exact ⟨rfl, rfl⟩
  case stopped =>
    exact ⟨_, step_of_passing_tick haccepts hdecode hpasses,
      afterCommand_taken_sets_overrun (by simpa using hvalid)⟩

end Sys2Proof.Machine

/-! Safety over every step: stops, one tick a cycle, the configuration lock, and who enables
(10_state.md R30; 20_memory.md R52, R55; 70_reset_and_hazards.md R163, R164). -/

namespace Sys2Proof.Machine

open Sys2Proof.Safety

/-! A cycle that contains a stop (R55, R164). -/

/-- What a stop leaves: Disabled, the channels off, no tick in flight (R101). -/
def StoppedOff (s : State) : Prop := s.enabled = false ∧ ChannelsOff s ∧ s.tickFlight = none

theorem stoppedOff_eStopEffect (s : State) : StoppedOff (eStopEffect s) := by
  simp [StoppedOff, ChannelsOff]

/-- What ESTOP leaves to the rest of the cycle (R100). -/
theorem commandPort_estop {s c : State} (haccepts : s.accepts = true)
    (hdecode : decode s.pins.cmdWord = .command .estop) (h : commandPort s = .next c) :
    c = respond .ok 0#32 (eStopEffect s) :=
  Host.Outcome.next.inj (h.symm.trans (commandPort_of_command haccepts hdecode))

/-- After position 2 of a cycle with a stop the block is off. -/
theorem stoppedOff_of_stop {s c : State} (hstop : StopsInCycle s)
    (hc : commandPort (beginCycle s) = .next c) : StoppedOff (stopPin c) := by
  obtain ⟨_, _, hpins⟩ := sameCycle_commandPort hc
  rcases hstop with hpin | ⟨haccepts, hdecode⟩
  · rw [stopPin_of_request (by rw [hpins]; exact hpin)]
    exact stoppedOff_eStopEffect c
  · obtain rfl := commandPort_estop (s := beginCycle s) haccepts hdecode hc
    rcases stopPin_cases (respond .ok 0#32 (eStopEffect (beginCycle s))) with ⟨_, h⟩ | ⟨_, h⟩ <;> rw [h]
    · exact stoppedOff_eStopEffect _
    · exact stoppedOff_eStopEffect (beginCycle s)

/-- Once off, the block stays as it is to the end of the cycle, but for TICK_OVERRUN and the answer of a
QUERY_LENGTH. -/
theorem afterCommand_of_stopped {c : State} (hoff : StoppedOff (stopPin c)) (taken : Bool) :
    ∃ m, OverrunAtMost (stopPin c) m ∧ afterCommand taken c = commitQuery (raiseFlags m (stopPin c)) := by
  obtain ⟨hdisabled, _, hfree⟩ := hoff
  obtain ⟨m, hm, hport⟩ := tickPort_raises (taken := taken) (s := stopPin c) fun _ haccepted => by
    obtain ⟨_, _, hon, _⟩ := of_tickVerdict_accepted haccepted
    simp [hdisabled] at hon
  refine ⟨m, hm, ?_⟩
  rw [afterCommand, hport, commits, commitTick_of_none (by simpa using hfree)]

/-- A stop records the tick in flight as aborted (R164). -/
theorem eStopEffect_aborts {s : State} (hflight : s.tickFlight.isSome = true) :
    (eStopEffect s).flags.getLsbD 5 = true := by
  rw [eStopEffect_flags, if_pos hflight, BitVec.getLsbD_or]
  simp [Flag.mask, Flag.position]

/-- A stop with no tick in flight sets no flag (R101). -/
theorem eStopEffect_flags_of_none {s : State} (hfree : s.tickFlight = none) :
    (eStopEffect s).flags = s.flags := by
  simp [eStopEffect_flags, hfree]

/-- A tick in flight at the beginning of a cycle with a stop writes nothing and is recorded as aborted. -/
theorem stop_aborts_flight {s c : State} (hstop : StopsInCycle s) (hflight : s.tickFlight.isSome = true)
    (hc : commandPort (beginCycle s) = .next c) :
    SameRecords s c ∧ (stopPin c).flags.getLsbD 5 = true := by
  by_cases hcommand : s.accepts = true ∧ decode s.pins.cmdWord = .command .estop
  · obtain ⟨haccepts, hdecode⟩ := hcommand
    obtain rfl := commandPort_estop (s := beginCycle s) haccepts hdecode hc
    exact ⟨by simp [SameRecords],
      onlySetsFlags_stopPin.keeps_flag (eStopEffect_aborts (s := beginCycle s) hflight)⟩
  · have hpin : s.pins.estopReq = true := hstop.resolve_right hcommand
    obtain ⟨_, _, hpins⟩ := sameCycle_commandPort hc
    obtain ⟨hkept, hrecords, _⟩ := commandPort_keeps_flight hc hflight hcommand
    rw [stopPin_of_request (by rw [hpins]; exact hpin)]
    exact ⟨hrecords, eStopEffect_aborts (by rw [hkept]; exact hflight)⟩

/-- What a passing TICK leaves to the rest of the cycle (R102). -/
theorem commandPort_passing_tick {s c : State} {now : Time} (haccepts : s.accepts = true)
    (hdecode : decode s.pins.cmdWord = .command (.tick now)) (hpasses : TickPasses s s.enabled now)
    (h : commandPort s = .next c) : c = respond .ok 0#32 (acceptTick now s) := by
  have hexec := (commandPort_of_command haccepts hdecode).symm.trans h
  rw [exec_tick_of_passes hpasses] at hexec
  exact (Host.Outcome.next.inj hexec).symm

/-- An applied tick leaves TICK_ABORTED alone (R106). -/
theorem applyTick_keeps_aborted (snap : Snapshot) (s : State) :
    (applyTick snap s).flags.getLsbD 5 = s.flags.getLsbD 5 := by
  rw [applyTick_flags]
  split
  · rw [BitVec.getLsbD_or]
    simp
  · rfl

/-- In a cycle that accepts a TICK the stop is one by pin. -/
theorem pin_of_stop_beside_tick {s : State} {now : Time} (hstop : StopsInCycle s)
    (hdecode : decode s.pins.cmdWord = .command (.tick now)) : s.pins.estopReq = true :=
  hstop.resolve_right fun ⟨_, hestop⟩ => by
    rw [hdecode] at hestop
    cases hestop

/-- With `T_LAT > 1` the pin aborts the TICK accepted in its cycle (R164). -/
theorem pin_aborts_accepted_tick {s c : State} {now : Time} (hpin : s.pins.estopReq = true)
    (hc : c = respond .ok 0#32 (acceptTick now (beginCycle s))) (hlat : s.build.extraLatency ≠ 0) :
    SameRecords s c ∧ (stopPin c).flags.getLsbD 5 = true := by
  rw [acceptTick_of_more (s := beginCycle s) hlat] at hc
  constructor
  · rw [hc]
    exact ⟨rfl, rfl, rfl, rfl, rfl⟩
  · rw [stopPin_of_request (by rw [hc]; exact hpin)]
    exact eStopEffect_aborts (by rw [hc]; rfl)

/-- With `T_LAT = 1` the TICK accepted in the cycle of the pin has been applied, and nothing is aborted. -/
theorem pin_after_applied_tick {s c : State} {now : Time} (hpin : s.pins.estopReq = true)
    (hc : c = respond .ok 0#32 (acceptTick now (beginCycle s))) (hlat : s.build.extraLatency = 0)
    (hfree : s.tickFlight = none) :
    (stopPin c).flags.getLsbD 5 = s.flags.getLsbD 5 ∧ c.lastRaw = s.pins.encRaw ∧ c.lastUpdate = now ∧
      c.tickCount = s.tickCount + 1#32 := by
  rw [acceptTick_of_one (s := beginCycle s) hlat] at hc
  have hpinned : stopPin c = eStopEffect c := stopPin_of_request (by rw [hc]; simpa using hpin)
  have hcfree : c.tickFlight = none := by rw [hc]; simpa using hfree
  constructor
  · rw [hpinned, eStopEffect_flags_of_none hcfree, hc, respond_flags, applyTick_keeps_aborted]
    rfl
  · simp [hc, tickSnapshot, encRead]

/-- Settles O48: after the stop nothing more is written, so the end of the cycle shows what the stop left. -/
theorem everyStopCycleEndsOff : Obligations.EveryStopCycleEndsOff := by
  intro s hrst hstop
  obtain ⟨c, hc⟩ := commandPort_next (beginCycle s)
  have hoff := stoppedOff_of_stop hstop hc
  obtain ⟨m, hm, hafter⟩ := afterCommand_of_stopped hoff (commandTakesTick (beginCycle s))
  have hstep := step_cycle hrst hc
  rw [hafter] at hstep
  have haborted : (commitQuery (raiseFlags m (stopPin c))).flags.getLsbD 5 =
      (stopPin c).flags.getLsbD 5 := by
    rw [commitQuery_flags, raiseFlags_flags, BitVec.getLsbD_or, hm.aborted_clear, Bool.or_false]
  have hwritesNothing : SameRecords s c ∧ (stopPin c).flags.getLsbD 5 = true →
      (commitQuery (raiseFlags m (stopPin c))).flags.getLsbD 5 = true ∧
        c.lastRaw = s.lastRaw ∧ c.lastLength = s.lastLength ∧ c.lastTickFault = s.lastTickFault ∧
        c.lastUpdate = s.lastUpdate ∧ c.tickCount = s.tickCount := by
    rintro ⟨⟨hcount, hraw, hlength, hfault, hupdate⟩, hset⟩
    exact ⟨haborted.trans hset, hraw, hlength, hfault, hupdate, hcount⟩
  obtain ⟨hdisabled, ⟨hduty, hpwmA, hpwmB⟩, hfree⟩ := hoff
  refine ⟨_, hstep, by simpa using hdisabled, ⟨by simpa using hduty, by simpa using hpwmA,
    by simpa using hpwmB⟩, by simpa using hfree, fun hflight => ?flight,
    fun now haccepts hdecode hpasses => ?tick⟩
  case flight => simpa using hwritesNothing (stop_aborts_flight hstop hflight hc)
  case tick =>
    have hpin := pin_of_stop_beside_tick hstop hdecode
    have htick := commandPort_passing_tick (s := beginCycle s) haccepts hdecode hpasses hc
    refine ⟨fun hlat => ?slow, fun hlat => ?atOnce⟩
    case slow =>
      simpa using hwritesNothing (pin_aborts_accepted_tick hpin htick ((one_lt_tLat_iff s).1 hlat))
    case atOnce =>
      obtain ⟨hnone, _, _⟩ := hpasses
      obtain ⟨hkept, hrecords⟩ :=
        pin_after_applied_tick hpin htick ((tLat_eq_one_iff s).1 hlat) hnone
      exact ⟨haborted.trans hkept, by simpa using hrecords⟩

/-! One tick a cycle (R163). -/

/-- So far the cycle, begun in `s`, has applied no tick, or one, after which none is in flight. -/
def TickedOnceAtMost (s t : State) : Prop :=
  SameRecords s t ∨ (t.tickCount = s.tickCount + 1#32 ∧ t.tickFlight = none)

theorem tickedOnceAtMost_applyTick {s t : State} (hs : SameRecords s t) (hfree : t.tickFlight = none)
    (snap : Snapshot) : TickedOnceAtMost s (applyTick snap t) := by
  obtain ⟨hcount, _⟩ := hs
  exact .inr ⟨by rw [applyTick_tickCount, hcount], by simpa using hfree⟩

theorem tickedOnceAtMost_acceptTick {s t : State} (hs : SameRecords s t) (hfree : t.tickFlight = none)
    (now : Time) : TickedOnceAtMost s (acceptTick now t) := by
  rcases acceptTick_cases now t with ⟨_, h⟩ | ⟨_, h⟩ <;> rw [h]
  · exact tickedOnceAtMost_applyTick (t := { markSampled t with queryFlight := t.preemptedQuery }) hs hfree _
  · exact .inl hs

theorem TickedOnceAtMost.congr {s t u : State} (h : TickedOnceAtMost s t) (hrecords : SameRecords t u)
    (hfree : t.tickFlight = none → u.tickFlight = none) : TickedOnceAtMost s u := by
  rcases h with hsame | ⟨hcount, hnone⟩
  · exact .inl (hsame.trans hrecords)
  · obtain ⟨hkept, _⟩ := hrecords
    exact .inr ⟨hkept.trans hcount, hfree hnone⟩

/-- After the command port either no tick is applied, or the tick port is closed by `TickOccupied` (R163). -/
theorem commandPort_ticks_once {s c : State} (h : commandPort s = .next c) :
    SameRecords s c ∨ (commandTakesTick s = true ∧ TickedOnceAtMost s c) := by
  rcases commandPort_outcome h with ⟨_, rfl⟩ | ⟨_, _, _, rfl⟩ | ⟨i, haccepts, hdecode, hexec⟩
  · exact .inl ⟨rfl, rfl, rfl, rfl, rfl⟩
  · exact .inl ⟨rfl, rfl, rfl, rfl, rfl⟩
  · rcases exec_tick_cases hexec with ⟨now, rfl, hpasses, rfl⟩ | ⟨_, hrecords, _⟩
    · have hverdict := (tickVerdict_accepted_iff false now s).2 ⟨rfl, hpasses⟩
      obtain ⟨hfree, _, _⟩ := hpasses
      refine .inr ⟨by simp [commandTakesTick_of_tick haccepts hdecode, hverdict], ?_⟩
      exact (tickedOnceAtMost_acceptTick (s := s) ⟨rfl, rfl, rfl, rfl, rfl⟩ hfree now).congr
        ⟨rfl, rfl, rfl, rfl, rfl⟩ id
    · exact .inl hrecords

theorem stopPin_keeps_none {s : State} (h : s.tickFlight = none) : (stopPin s).tickFlight = none := by
  rcases stopPin_cases s with ⟨_, hp⟩ | ⟨_, hp⟩ <;> simp [hp, h]

/-- Position 3 applies a tick only when position 1 applied none. -/
theorem tickedOnceAtMost_tickPort {s t : State} {taken : Bool}
    (h : SameRecords s t ∨ (taken = true ∧ TickedOnceAtMost s t)) :
    TickedOnceAtMost s (tickPort taken t) := by
  by_cases haccepted : t.pins.tickValid = true ∧ tickVerdict taken t.pins.tickNow t = .accepted
  · obtain ⟨hvalid, hverdict⟩ := haccepted
    obtain ⟨hfree, hopen, _⟩ := of_tickVerdict_accepted hverdict
    rw [tickPort_of_accepted hvalid hverdict]
    exact tickedOnceAtMost_acceptTick (h.resolve_right (by simp [hopen])) hfree _
  · obtain ⟨m, _, hport⟩ := tickPort_raises fun hvalid hverdict => haccepted ⟨hvalid, hverdict⟩
    have hsofar : TickedOnceAtMost s t := h.elim .inl fun ⟨_, honce⟩ => honce
    rw [hport]
    exact hsofar.congr ⟨rfl, rfl, rfl, rfl, rfl⟩ id

/-- A tick commits at position 4 only when the cycle applied none before (R163). -/
theorem tickedOnceAtMost_commitTick {s t : State} (h : TickedOnceAtMost s t) :
    TickedOnceAtMost s (commitTick t) := by
  rcases commitTick_cases t with ⟨f, hf, _, hp⟩ | ⟨_, hp⟩ <;> rw [hp]
  · have hsofar : SameRecords s t := h.resolve_right (by simp [hf])
    exact tickedOnceAtMost_applyTick (t := { t with tickFlight := none }) hsofar rfl _
  · exact h

/-- Settles O49: a tick applied at one position leaves none for the later ones. -/
theorem atMostOneTickIsAppliedPerCycle : Obligations.AtMostOneTickIsAppliedPerCycle := by
  intro s hrst
  obtain ⟨c, hc⟩ := commandPort_next (beginCycle s)
  have hport := commandPort_ticks_once hc
  have hstopped : SameRecords (beginCycle s) (stopPin c) ∨ (commandTakesTick (beginCycle s) = true ∧
      TickedOnceAtMost (beginCycle s) (stopPin c)) :=
    hport.imp (·.trans (sameRecords_stopPin c))
      (And.imp_right (·.congr (sameRecords_stopPin c) stopPin_keeps_none))
  have hend := (tickedOnceAtMost_commitTick (tickedOnceAtMost_tickPort hstopped)).congr
    (sameRecords_commitQuery _) (by simp)
  refine ⟨_, step_cycle hrst hc, ?_⟩
  rcases hend with hsame | ⟨hcount, _⟩
  · exact .inr hsame
  · exact .inl hcount

/-! The configuration lock (R52). -/

/-- While Enabled a command writes no configuration register but IRQ_MASK (R127). -/
theorem agreeButMask_exec {i : Instr} {s c : State} (hon : s.enabled = true) (h : exec i s = .next c) :
    AgreeButMask s.cfg c.cfg := by
  rcases exec_cases h with ⟨_, _, rfl | rfl⟩ | ⟨_, rfl⟩ | ⟨_, rfl | ⟨_, rfl⟩⟩ | ⟨_, _, rfl⟩ |
    ⟨_, data, r, _, _, hunlocked, rfl⟩ | ⟨_, _, rfl⟩ | ⟨_, _, _, rfl⟩ | ⟨_, _, _, rfl⟩
  case inr.inr.inr.inr.inl =>
    rcases (cfgLocked_eq_false_iff r s).1 hunlocked with hoff | rfl
    · simp [hon] at hoff
    · exact agreeButMask_writeCfg_irqMask (agreeButMask_refl s.cfg) data
  all_goals simp [AgreeButMask, answerError]

theorem agreeButMask_commandPort {s c : State} (hon : s.enabled = true) (h : commandPort s = .next c) :
    AgreeButMask s.cfg c.cfg := by
  rcases commandPort_outcome h with ⟨_, rfl⟩ | ⟨_, _, _, rfl⟩ | ⟨_, _, _, hexec⟩
  · exact agreeButMask_refl _
  · exact agreeButMask_refl _
  · exact agreeButMask_exec hon hexec

/-- Settles O50: after the command port no position writes the configuration. -/
theorem configurationIsLockedWhileEnabled : Obligations.ConfigurationIsLockedWhileEnabled := by
  intro s hrst hon
  obtain ⟨c, hc⟩ := commandPort_next (beginCycle s)
  refine ⟨_, step_cycle hrst hc, ?_⟩
  rw [closeCycle_cfg, afterCommand_cfg]
  exact agreeButMask_commandPort (s := beginCycle s) hon hc

/-! ENABLED (R30, R97). -/

/-- Of the commands only SET_TARGET and ESTOP write ENABLED. -/
theorem exec_enabled {i : Instr} {s c : State} (h : exec i s = .next c) :
    c.enabled = match i with
      | .setTarget _ => true
      | .estop => false
      | _ => s.enabled := by
  rcases exec_cases h with ⟨_, rfl, rfl | rfl⟩ | ⟨rfl, rfl⟩ | ⟨rfl, rfl | ⟨_, rfl⟩⟩ | ⟨_, rfl, rfl⟩ |
    ⟨_, _, _, rfl, _, _, rfl⟩ | ⟨_, rfl, rfl⟩ | ⟨_, _, rfl | ⟨_, rfl⟩ | ⟨_, rfl⟩, rfl⟩ |
    ⟨_, _, ⟨_, _, rfl⟩ | ⟨_, rfl⟩ | ⟨_, rfl⟩, rfl⟩ <;> simp [answerError]

/-- Position 1 leaves ENABLED as `enabledAfterCommand` says. -/
theorem commandPort_enabled {s c : State} (h : commandPort s = .next c) :
    c.enabled = enabledAfterCommand s := by
  unfold enabledAfterCommand
  rcases commandPort_outcome h with ⟨hidle, rfl⟩ | ⟨_, haccepts, hdecode, rfl⟩ |
    ⟨i, haccepts, hdecode, hexec⟩
  · simp [hidle]
  · simp [haccepts, hdecode, answerIllegal, answerError]
  · rw [if_pos haccepts, hdecode, exec_enabled hexec]
    cases i <;> rfl

/-- A Disabled controller is Enabled after the command port only by a SET_TARGET (R97). -/
theorem setTarget_of_enabledAfterCommand {s : State} (hoff : s.enabled = false)
    (h : enabledAfterCommand s = true) :
    s.accepts = true ∧ ∃ target, decode s.pins.cmdWord = .command (.setTarget target) := by
  unfold enabledAfterCommand at h
  cases haccepts : s.accepts with
  | false => simp [haccepts, hoff] at h
  | true =>
    rw [if_pos haccepts] at h
    cases hdecode : decode s.pins.cmdWord with
    | illegal why => simp [hdecode, hoff] at h
    | command i =>
      cases i with
      | setTarget target => exact ⟨rfl, target, rfl⟩
      | _ => simp [hdecode, hoff] at h

/-- Settles O51: a reset disables, and in a cycle ENABLED is what the command port left, unless the pin stops. -/
theorem onlySetTargetEnables : Obligations.OnlySetTargetEnables := by
  intro s t hoff h hon
  rcases step_cases h with ⟨_, rfl⟩ | ⟨_, c, hc, rfl⟩
  · cases hon
  · obtain ⟨_, _, hpins⟩ := sameCycle_commandPort hc
    rw [closeCycle_enabled, afterCommand_enabled, commandPort_enabled hc, Bool.and_eq_true,
      Bool.not_eq_true', hpins] at hon
    obtain ⟨henabled, hstop⟩ := hon
    exact ⟨hstop, setTarget_of_enabledAfterCommand (s := beginCycle s) hoff henabled⟩

end Sys2Proof.Machine

/-! A QUERY_LENGTH over a whole cycle: undisturbed, pre-empted, beside a tick, answered
(40_kinematics.md R95; 70_reset_and_hazards.md R160 to R162). -/

namespace Sys2Proof.Machine

open Sys2Proof.Safety

/-! What a tick that takes the unit makes of the query (R162). -/

theorem preemptedQuery_of_earlier {s : State} {q : QueryFlight} (hq : s.queryFlight = some q)
    (hearlier : q.commitAt ≠ s.commitCycle) : s.preemptedQuery = some { q with cancelled := true } := by
  simp [State.preemptedQuery, hq, hearlier]

theorem preemptedQuery_of_shared {s : State} {q : QueryFlight} (hq : s.queryFlight = some q)
    (hshared : q.commitAt = s.commitCycle) : s.preemptedQuery = some q := by
  simp [State.preemptedQuery, hq, hshared]

/-- A query that is cancelled stays as it is. -/
theorem preemptedQuery_of_cancelled {s : State} {q : QueryFlight} (hq : s.queryFlight = some q)
    (hcancelled : q.cancelled = true) : s.preemptedQuery = some q := by
  by_cases hshared : q.commitAt = s.commitCycle
  · exact preemptedQuery_of_shared hq hshared
  · rw [preemptedQuery_of_earlier hq hshared, ← hcancelled]

/-- What position 3 does to the query: nothing, or what an accepted tick does. -/
theorem tickPort_query_cases (taken : Bool) (s : State) :
    (tickPort taken s).queryFlight = s.queryFlight ∨
    (s.pins.tickValid = true ∧ tickVerdict taken s.pins.tickNow s = .accepted ∧
      (tickPort taken s).queryFlight = s.preemptedQuery) := by
  by_cases haccepted : s.pins.tickValid = true ∧ tickVerdict taken s.pins.tickNow s = .accepted
  · obtain ⟨hvalid, hverdict⟩ := haccepted
    exact .inr ⟨hvalid, hverdict, by rw [tickPort_of_accepted hvalid hverdict, acceptTick_queryFlight]⟩
  · obtain ⟨m, _, hport⟩ := tickPort_raises fun hvalid hverdict => haccepted ⟨hvalid, hverdict⟩
    exact .inl (by rw [hport, raiseFlags_queryFlight])

/-- Positions 2 and 3 leave a query in flight, with its commit cycle and its sample. It is cancelled after them
if it was before, or if the tick port asked and the query was of an earlier cycle (R162). -/
theorem tickPort_keeps_query {s : State} {q : QueryFlight} (hq : s.queryFlight = some q) (taken : Bool) :
    ∃ r, (tickPort taken (stopPin s)).queryFlight = some r ∧ r.commitAt = q.commitAt ∧ r.raw = q.raw ∧
      r.cfg = q.cfg ∧
      (r.cancelled = true → q.cancelled = true ∨
        (s.pins.tickValid = true ∧ q.commitAt ≠ s.commitCycle)) := by
  have hstopped : (stopPin s).queryFlight = some q := by simpa using hq
  rcases tickPort_query_cases taken (stopPin s) with h | ⟨hvalid, _, h⟩ <;> rw [h]
  · exact ⟨q, hstopped, rfl, rfl, rfl, .inl⟩
  · by_cases hshared : q.commitAt = (stopPin s).commitCycle
    · exact ⟨q, preemptedQuery_of_shared hstopped hshared, rfl, rfl, rfl, .inl⟩
    · refine ⟨_, preemptedQuery_of_earlier hstopped hshared, rfl, rfl, rfl, fun _ => .inr ⟨?_, ?_⟩⟩
      · simpa using hvalid
      · simpa [State.commitCycle] using hshared

/-! What positions 2 to 4 leave of the query and of the response register. -/

theorem answerQuery_of_cancelled {q : QueryFlight} (h : q.cancelled = true) (s : State) :
    answerQuery q s = respond .busy 0#32 s := if_pos h

theorem answerQuery_of_kept {q : QueryFlight} (h : q.cancelled = false) (s : State) :
    answerQuery q s = respond .ok (queryData q.cfg q.raw) s := if_neg (by simp [h])

/-- In its commit cycle the query answers and leaves the unit. -/
theorem afterCommand_of_query_due {taken : Bool} {s : State} {r : QueryFlight}
    (hr : (tickPort taken (stopPin s)).queryFlight = some r) (hdue : r.commitAt = s.cycle) :
    afterCommand taken s =
      answerQuery r { commitTick (tickPort taken (stopPin s)) with queryFlight := none } :=
  commitQuery_of_due (by simpa using hr) (by simpa using hdue)

/-- Outside its commit cycle the query stays in flight. -/
theorem afterCommand_of_query_waits {taken : Bool} {s : State} {r : QueryFlight}
    (hr : (tickPort taken (stopPin s)).queryFlight = some r) (hlater : r.commitAt ≠ s.cycle) :
    afterCommand taken s = commitTick (tickPort taken (stopPin s)) :=
  commitQuery_of_not_due fun q hq => by
    rw [commitTick_queryFlight, hr] at hq
    obtain rfl := Option.some.inj hq
    simpa using hlater

/-- With no query in flight positions 2 to 4 load no response. -/
theorem afterCommand_of_no_query {s : State} (h : s.queryFlight = none) (taken : Bool) :
    afterCommand taken s = commitTick (tickPort taken (stopPin s)) ∧
      (tickPort taken (stopPin s)).queryFlight = none := by
  have hnone : (tickPort taken (stopPin s)).queryFlight = none := by
    rcases tickPort_query_cases taken (stopPin s) with hq | ⟨_, _, hq⟩ <;> rw [hq]
    · simpa using h
    · exact preemptedQuery_of_none (by simpa using h)
  exact ⟨commitQuery_of_none (by simpa using hnone), hnone⟩

/-! The step of a cycle that begins with a query in flight: no command is accepted in it (R61). -/

theorem step_of_query {s : State} {q : QueryFlight} (hrst : s.pins.rst = false)
    (hq : s.queryFlight = some q) :
    step s = .next (closeCycle s (afterCommand false (beginCycle s))) :=
  step_of_not_accepts hrst (not_accepts_of_query (by simp [hq]))

/-- A cancelled query answers BUSY with data 0, when it is due (R162). -/
theorem query_answers_busy {s : State} {r : QueryFlight}
    (hr : (tickPort false (stopPin (beginCycle s))).queryFlight = some r) (hcancelled : r.cancelled = true)
    (hdue : r.commitAt = s.cycle) :
    (afterCommand false (beginCycle s)).queryFlight = none ∧
      (afterCommand false (beginCycle s)).rspValid = true ∧
      (afterCommand false (beginCycle s)).rspStatus = 3#2 ∧
      (afterCommand false (beginCycle s)).rspData = 0#32 := by
  rw [afterCommand_of_query_due hr hdue, answerQuery_of_cancelled hcancelled]
  exact ⟨rfl, rfl, rfl, rfl⟩

/-- A query that is not cancelled answers OK with its result, when it is due (R161). -/
theorem query_answers_ok {s : State} {r : QueryFlight}
    (hr : (tickPort false (stopPin (beginCycle s))).queryFlight = some r) (hkept : r.cancelled = false)
    (hdue : r.commitAt = s.cycle) :
    (afterCommand false (beginCycle s)).queryFlight = none ∧
      (afterCommand false (beginCycle s)).rspValid = true ∧
      (afterCommand false (beginCycle s)).rspStatus = 0#2 ∧
      (afterCommand false (beginCycle s)).rspData = queryData r.cfg r.raw := by
  rw [afterCommand_of_query_due hr hdue, answerQuery_of_kept hkept]
  exact ⟨rfl, rfl, rfl, rfl⟩

/-- A query that is not due stays in flight and the port stays silent (R161). -/
theorem query_waits {s : State} {r : QueryFlight}
    (hr : (tickPort false (stopPin (beginCycle s))).queryFlight = some r) (hlater : r.commitAt ≠ s.cycle) :
    (afterCommand false (beginCycle s)).queryFlight = some r ∧
      (afterCommand false (beginCycle s)).rspValid = false := by
  rw [afterCommand_of_query_waits hr hlater]
  simp [hr]

theorem owner_of_flight {s : State} (h : s.tickFlight.isSome = true) : s.owner = some .tick := by
  simp [State.owner, h]

/-- Settles O46: an accepted tick cancels the query of an earlier cycle; a query that no tick disturbs leaves
position 3 as it came. -/
theorem tickPreemptsTheQuery : Obligations.TickPreemptsTheQuery := by
  refine ⟨fun s q hrst hstop hvalid hq hlat _ hearlier hpasses => ?preempts,
    fun s q hrst hq hcancelled => ?cancelled, fun s q hrst hq hkept hquiet => ?undisturbed⟩
  case preempts =>
    have hverdict : tickVerdict false (beginCycle s).pins.tickNow (beginCycle s) = .accepted :=
      (tickVerdict_accepted_iff _ _ _).2 ⟨rfl, hpasses⟩
    have hport : tickPort false (stopPin (beginCycle s)) = acceptTick s.pins.tickNow (beginCycle s) := by
      rw [stopPin_of_idle (s := beginCycle s) hstop]
      exact tickPort_of_accepted hvalid hverdict
    have hquery : (tickPort false (stopPin (beginCycle s))).queryFlight =
        some { q with cancelled := true } := by
      rw [hport, acceptTick_queryFlight]
      exact preemptedQuery_of_earlier (s := beginCycle s) hq (ne_of_lt hearlier)
    have htick : (afterCommand false (beginCycle s)).tickFlight = some
        { commitAt := s.commitCycle, snap := tickSnapshot s.pins.tickNow (beginCycle s) } := by
      obtain ⟨hfree, _, _⟩ := hpasses
      rw [afterCommand, commits, commitQuery_tickFlight, hport, commitTick_of_not_due
        fun f hf => by simpa using acceptTick_not_due (s := beginCycle s) hfree _ f hf,
        acceptTick_of_more (s := beginCycle s) ((one_lt_tLat_iff s).1 hlat)]
      rfl
    refine ⟨_, step_of_query hrst hq, htick, owner_of_flight (by simp [htick]),
      query_waits (r := { q with cancelled := true }) hquery,
      query_answers_busy (r := { q with cancelled := true }) hquery rfl⟩
  case cancelled =>
    have hquery : (tickPort false (stopPin (beginCycle s))).queryFlight = some q := by
      have hstopped : (stopPin (beginCycle s)).queryFlight = some q := by simpa using hq
      rcases tickPort_query_cases false (stopPin (beginCycle s)) with h | ⟨_, _, h⟩
      · exact h.trans hstopped
      · exact h.trans (preemptedQuery_of_cancelled hstopped hcancelled)
    exact ⟨_, step_of_query hrst hq, query_answers_busy hquery hcancelled, query_waits hquery⟩
  case undisturbed =>
    have hquery : (tickPort false (stopPin (beginCycle s))).queryFlight = some q := by
      rcases tickPort_query_cases false (stopPin (beginCycle s)) with h | ⟨hvalid, hverdict, _⟩
      · exact h.trans (by simpa using hq)
      · obtain ⟨_, hpasses⟩ := (tickVerdict_accepted_iff _ _ _).1 hverdict
        rcases stopPin_cases (beginCycle s) with ⟨_, hp⟩ | ⟨hstop, hp⟩ <;> rw [hp] at hvalid hpasses
        · obtain ⟨_, hon, _⟩ := hpasses
          simp at hon
        · rcases hquiet with hidle | hpin | hfails
          · exact absurd hvalid (by simp [hidle])
          · exact absurd hstop (by simp [hpin])
          · exact absurd hpasses hfails
    exact ⟨_, step_of_query hrst hq, query_answers_ok hquery hkept, query_waits hquery⟩

/-! A query and a tick in one cycle (R162). -/

theorem occupyWithQuery_of_one {s : State} (h : s.build.extraLatency = 0) :
    occupyWithQuery s = respond .ok (queryData s.cfg (encRead s)) (markSampled s) := if_pos h

theorem occupyWithQuery_of_more {s : State} (h : s.build.extraLatency ≠ 0) :
    occupyWithQuery s =
      { markSampled s with
        queryFlight := some
          { commitAt := s.commitCycle, cancelled := false, raw := encRead s, cfg := s.cfg } } := if_neg h

/-- What a QUERY_LENGTH that finds the unit free leaves to the rest of the cycle (R95). -/
theorem step_of_occupying_query {s : State} (haccepts : s.accepts = true)
    (hdecode : decode s.pins.cmdWord = .command .queryLength) (hfree : s.tickFlight = none) :
    step s = .next (closeCycle s (afterCommand false (occupyWithQuery (beginCycle s)))) := by
  obtain ⟨_, _, hquery⟩ := of_accepts haccepts
  have hnotbusy : (beginCycle s).busy = false := busy_of_nothing_in_flight hfree hquery
  have hexec : exec .queryLength (beginCycle s) = .next (occupyWithQuery (beginCycle s)) := by
    simp [exec, execQueryLength, hnotbusy]
  have htaken : commandTakesTick (beginCycle s) = false :=
    commandTakesTick_of_not_tick (s := beginCycle s) hdecode (by simp)
  rw [step_of_command haccepts hdecode hexec, htaken]

/-- The answer in the response register is the length and the fault that the last tick recorded. -/
theorem queryData_matches_records {c : CfgRegs} {raw : AngleCode} {t : State}
    (hdata : t.rspData = queryData c raw) (hlength : t.lastLength = (kin c raw).1)
    (hfault : t.lastTickFault = (kin c raw).2) :
    t.rspData.toNat % 2 ^ 31 = t.lastLength.toNat ∧ t.rspData.getLsbD 31 = t.lastTickFault := by
  obtain ⟨h31, hlow⟩ := queryData_fields c raw
  rw [hdata, hlength, hfault]
  exact ⟨hlow, h31⟩

/-- Settles O47: at acceptance the tick finds the query of its own cycle and takes the same sample; in their
commit cycle the tick is applied first, and the query answers from the same snapshot. -/
theorem queryAndTickShareTheSample : Obligations.QueryAndTickShareTheSample := by
  refine ⟨fun s haccepts hdecode hstop hvalid hpasses => ?accepted,
    fun s f q hrst hstop hflight hq hkept hdue hqdue hraw hcfg => ?commit⟩
  case accepted =>
    obtain ⟨_, _, hquery⟩ := of_accepts haccepts
    obtain ⟨hfree, hon, hperiod⟩ := hpasses
    set c := occupyWithQuery (beginCycle s) with hc
    have hpins : c.pins = s.pins := by simp [hc]
    have hcfree : c.tickFlight = none := by simpa [hc] using hfree
    have hcpasses : TickPasses c c.enabled s.pins.tickNow := by
      refine ⟨hcfree, by simpa [hc] using hon, by simpa [hc] using hperiod⟩
    have hport : tickPort false (stopPin c) = acceptTick s.pins.tickNow c := by
      rw [stopPin_of_idle (by rw [hpins, hstop]), ← hpins]
      exact tickPort_of_accepted (by rw [hpins, hvalid])
        ((tickVerdict_accepted_iff _ _ _).2 ⟨rfl, by rwa [hpins]⟩)
    have hcommit : commitTick (acceptTick s.pins.tickNow c) = acceptTick s.pins.tickNow c :=
      commitTick_of_not_due fun f hf => by simpa using acceptTick_not_due hcfree _ f hf
    have hstep := step_of_occupying_query haccepts hdecode hfree
    refine ⟨_, hstep, by simp [afterCommand, ← hc, hport], fun hlat => ?atOnce, fun hlat => ?inFlight⟩
    case atOnce =>
      have hone : (beginCycle s).build.extraLatency = 0 := (tLat_eq_one_iff s).1 hlat
      have hc1 := hc.trans (occupyWithQuery_of_one hone)
      have hcquery : c.queryFlight = none := by rw [hc1]; exact hquery
      obtain ⟨hafter, _⟩ := afterCommand_of_no_query hcquery false
      rw [← hc, hafter, hport, hcommit, acceptTick_of_one (by rw [hc1]; exact hone), hc1]
      refine ⟨by simp, by simp [RspStatus.code], by simp [tickSnapshot, encRead], by simp, ?_⟩
      exact queryData_matches_records (c := s.cfg) (raw := s.pins.encRaw) (by simp [encRead])
        (by simp [tickSnapshot, encRead]) (by simp [tickSnapshot, encRead])
    case inFlight =>
      have hmore : (beginCycle s).build.extraLatency ≠ 0 := (one_lt_tLat_iff s).1 hlat
      have hc1 := hc.trans (occupyWithQuery_of_more hmore)
      have hcquery : c.queryFlight = some
          { commitAt := s.commitCycle, cancelled := false, raw := s.pins.encRaw, cfg := s.cfg } := by
        rw [hc1]
        rfl
      have hshared : c.preemptedQuery = c.queryFlight :=
        (preemptedQuery_of_shared hcquery (by rw [hc1]; rfl)).trans hcquery.symm
      have hlater : s.commitCycle ≠ c.cycle := by
        simpa [hc] using commitCycle_ne_cycle (s := s) hmore
      have hafter := afterCommand_of_query_waits (taken := false)
        (by rw [hport, acceptTick_queryFlight, hshared, hcquery]) hlater
      rw [hafter, hport, hcommit, acceptTick_of_more (by rw [hc1]; exact hmore), hshared, hc1]
      exact ⟨rfl, rfl, rfl⟩
  case commit =>
    obtain ⟨m, _, hafter⟩ := afterCommand_of_due (s := beginCycle s) hstop hflight hdue false
    rw [commitQuery_of_due (q := q) (by simpa using hq) (by simpa using hqdue), answerQuery_of_kept hkept,
      hraw, hcfg] at hafter
    refine ⟨_, step_of_query hrst hq, ?_⟩
    rw [hafter]
    refine ⟨by simp, rfl, rfl, rfl, by simp, by simp, ?_⟩
    exact queryData_matches_records (c := f.snap.cfg) (raw := f.snap.raw) rfl (by simp) (by simp)

end Sys2Proof.Machine

/-! Responses and samples (30_encoding.md R60, R64; 70_reset_and_hazards.md R165, R166). -/

namespace Sys2Proof.Machine

open Sys2Proof.Safety

/-! Responses. -/

/-- Every command loads its response, but for a QUERY_LENGTH that goes in flight, which does not commit in its
own cycle (R64, R161). -/
theorem exec_answers {i : Instr} {s c : State} (h : exec i s = .next c) :
    c.rspValid = true ∨
      (i = .queryLength ∧ ∃ q, c.queryFlight = some q ∧ q.commitAt ≠ s.cycle) := by
  rcases exec_cases h with ⟨_, _, rfl | rfl⟩ | ⟨_, rfl⟩ | ⟨rfl, rfl | ⟨_, rfl⟩⟩ | ⟨_, _, rfl⟩ |
    ⟨_, _, _, _, _, _, rfl⟩ | ⟨_, _, rfl⟩ | ⟨_, _, _, rfl⟩ | ⟨_, _, _, rfl⟩
  case inr.inr.inl.inr =>
    by_cases hlat : s.build.extraLatency = 0
    · exact .inl (by rw [occupyWithQuery_of_one hlat]; rfl)
    · exact .inr ⟨rfl, _, by rw [occupyWithQuery_of_more hlat], commitCycle_ne_cycle hlat⟩
  all_goals exact .inl rfl

theorem commandPort_answers {s c : State} (haccepts : s.accepts = true) (h : commandPort s = .next c) :
    c.rspValid = true ∨ (decode s.pins.cmdWord = .command .queryLength ∧
      ∃ q, c.queryFlight = some q ∧ q.commitAt ≠ s.cycle) := by
  rcases commandPort_outcome h with ⟨hidle, _⟩ | ⟨_, _, _, rfl⟩ | ⟨i, _, hdecode, hexec⟩
  · simp [hidle] at haccepts
  · exact .inl rfl
  · exact (exec_answers hexec).imp_right fun ⟨hi, hq⟩ => ⟨hi ▸ hdecode, hq⟩

/-- An answer given at position 1 is replaced by another one at most. -/
theorem afterCommand_keeps_response {s : State} (h : s.rspValid = true) (taken : Bool) :
    (afterCommand taken s).rspValid = true := by
  unfold afterCommand commits
  rcases commitQuery_cases (commitTick (tickPort taken (stopPin s))) with ⟨q, _, _, hp⟩ | ⟨_, hp⟩ <;> rw [hp]
  · unfold answerQuery
    split <;> rfl
  · simpa using h

/-- With no query due in the cycle, positions 2 to 4 leave the response register. -/
theorem afterCommand_of_no_query_due {s : State}
    (hlater : ∀ q, s.queryFlight = some q → q.commitAt ≠ s.cycle) (taken : Bool) :
    afterCommand taken s = commitTick (tickPort taken (stopPin s)) := by
  cases hq : s.queryFlight with
  | none => exact (afterCommand_of_no_query hq taken).1
  | some q =>
    obtain ⟨r, hr, hcommit, _⟩ := tickPort_keeps_query hq taken
    exact afterCommand_of_query_waits hr (hcommit ▸ hlater q hq)

/-! Samples. -/

/-- The commands that sample: a QUERY_LENGTH that finds the unit free, a TICK that passes its checks (R60). -/
def CommandSamples (s : State) (i : Instr) : Prop :=
  (i = .queryLength ∧ s.busy = false) ∨ ∃ now, i = .tick now ∧ TickPasses s s.enabled now

theorem accepted_command_samples_iff (s : State) :
    (∃ i, s.accepts = true ∧ decode s.pins.cmdWord = .command i ∧ CommandSamples s i) ↔
      (s.accepts = true ∧ decode s.pins.cmdWord = .command .queryLength ∧ s.busy = false) ∨
      ∃ now, s.accepts = true ∧ decode s.pins.cmdWord = .command (.tick now) ∧
        TickPasses s s.enabled now := by
  constructor
  · rintro ⟨_, haccepts, hdecode, ⟨rfl, hfree⟩ | ⟨now, rfl, hpasses⟩⟩
    · exact .inl ⟨haccepts, hdecode, hfree⟩
    · exact .inr ⟨now, haccepts, hdecode, hpasses⟩
  · rintro (⟨haccepts, hdecode, hfree⟩ | ⟨now, haccepts, hdecode, hpasses⟩)
    · exact ⟨_, haccepts, hdecode, .inl ⟨rfl, hfree⟩⟩
    · exact ⟨_, haccepts, hdecode, .inr ⟨now, rfl, hpasses⟩⟩

theorem performTick_encStrobe (v : TickVerdict) (now : Time) (s : State) :
    (performTick v now s).encStrobe = true ↔ s.encStrobe = true ∨ v = .accepted := by
  cases v <;> simp [performTick]

theorem exec_encStrobe {i : Instr} {s c : State} (hclear : s.encStrobe = false) (h : exec i s = .next c) :
    c.encStrobe = true ↔ CommandSamples s i := by
  unfold CommandSamples
  rcases exec_cases h with ⟨_, rfl, rfl | rfl⟩ | ⟨rfl, rfl⟩ | ⟨rfl, hbusy⟩ | ⟨now, rfl, rfl⟩ |
    ⟨_, _, _, rfl, _, _, rfl⟩ | ⟨_, rfl, rfl⟩ | ⟨_, _, rfl | ⟨_, rfl⟩ | ⟨_, rfl⟩, rfl⟩ |
    ⟨_, _, ⟨_, _, rfl⟩ | ⟨_, rfl⟩ | ⟨_, rfl⟩, rfl⟩
  case inr.inr.inl =>
    cases hb : s.busy with
    | true =>
      have hanswered : c = respond .busy 0#32 s := hbusy.resolve_right (by simp [hb])
      simp [hanswered, hclear]
    | false =>
      have hexec : exec .queryLength s = .next (occupyWithQuery s) := by simp [exec, execQueryLength, hb]
      obtain rfl := Host.Outcome.next.inj (hexec.symm.trans h)
      simp
  case inr.inr.inr.inl =>
    simp [performTick_encStrobe, hclear, tickVerdict_accepted_iff]
  all_goals simp [hclear, answerError]

/-- Position 1 raises the strobe by the command it accepts. -/
theorem commandPort_encStrobe {s c : State} (hclear : s.encStrobe = false) (h : commandPort s = .next c) :
    c.encStrobe = true ↔
      ∃ i, s.accepts = true ∧ decode s.pins.cmdWord = .command i ∧ CommandSamples s i := by
  rcases commandPort_outcome h with ⟨hidle, rfl⟩ | ⟨_, haccepts, hdecode, rfl⟩ |
    ⟨i, haccepts, hdecode, hexec⟩
  · simp [hclear, hidle]
  · simp [hclear, hdecode, answerIllegal, answerError]
  · simp [exec_encStrobe hclear hexec, haccepts, hdecode]

/-- After position 1 the strobe is raised by an accepted tick-port request alone. -/
theorem afterCommand_encStrobe (taken : Bool) (s : State) :
    (afterCommand taken s).encStrobe = true ↔ s.encStrobe = true ∨
      (s.pins.tickValid = true ∧ s.pins.estopReq = false ∧ taken = false ∧
        TickPasses s s.enabled s.pins.tickNow) := by
  have hport : (tickPort taken (stopPin s)).encStrobe = true ↔ s.encStrobe = true ∨
      (s.pins.tickValid = true ∧ tickVerdict taken s.pins.tickNow (stopPin s) = .accepted) := by
    unfold tickPort
    cases hvalid : s.pins.tickValid <;> simp [hvalid, performTick_encStrobe]
  rw [afterCommand, commits_encStrobe, hport, tickVerdict_accepted_iff]
  rcases stopPin_cases s with ⟨hstop, h⟩ | ⟨hstop, h⟩ <;> rw [h]
  · simp [hstop, TickPasses]
  · simp [hstop]

/-- The command port takes a tick exactly when it accepts a TICK that passes its checks (R163). -/
theorem commandTakesTick_iff (s : State) :
    commandTakesTick s = true ↔ ∃ now, s.accepts = true ∧
      decode s.pins.cmdWord = .command (.tick now) ∧ TickPasses s s.enabled now := by
  constructor
  · intro h
    have haccepts : s.accepts = true := (Bool.and_eq_true_iff.1 h).1
    cases hdecode : decode s.pins.cmdWord with
    | illegal why => simp [commandTakesTick, hdecode] at h
    | command i =>
      cases i with
      | tick now =>
        rw [commandTakesTick_of_tick haccepts hdecode, beq_iff_eq, tickVerdict_accepted_iff] at h
        exact ⟨now, haccepts, rfl, h.2⟩
      | _ =>
        rw [commandTakesTick_of_not_tick hdecode (by simp)] at h
        cases h
  · rintro ⟨now, haccepts, hdecode, hpasses⟩
    rw [commandTakesTick_of_tick haccepts hdecode, beq_iff_eq, tickVerdict_accepted_iff]
    exact ⟨rfl, hpasses⟩

/-- A command that is no accepted TICK and leaves the controller Enabled leaves what the checks of a tick read
(R103, R104). -/
theorem commandPort_keeps_checks {s c : State} (h : commandPort s = .next c)
    (htaken : commandTakesTick s = false) (hon : c.enabled = true) :
    c.tickFlight = s.tickFlight ∧ c.lastUpdate = s.lastUpdate ∧ c.cfg.minPeriod = s.cfg.minPeriod := by
  have hcfg : c.cfg.minPeriod = s.cfg.minPeriod := by
    cases hbefore : s.enabled with
    | true => rw [← agreeButMask_commandPort hbefore h]
    | false =>
      obtain ⟨haccepts, target, hdecode⟩ :=
        setTarget_of_enabledAfterCommand hbefore (commandPort_enabled h ▸ hon)
      obtain ⟨_, _, hkept⟩ := commandPort_setTarget haccepts hdecode h
      rw [hkept]
  rcases commandPort_outcome h with ⟨_, rfl⟩ | ⟨_, _, _, rfl⟩ | ⟨i, haccepts, hdecode, hexec⟩
  · exact ⟨rfl, rfl, rfl⟩
  · exact ⟨rfl, rfl, rfl⟩
  · rcases exec_tick_cases hexec with ⟨now, rfl, hpasses, _⟩ |
      ⟨_, ⟨_, _, _, _, hupdate⟩, ⟨_, rfl⟩ | ⟨_, hflight, _⟩⟩
    · have := (commandTakesTick_iff s).2 ⟨now, haccepts, hdecode, hpasses⟩
      simp [htaken] at this
    · simp at hon
    · exact ⟨hflight, hupdate, hcfg⟩

/-- The checks of a tick-port request, read off the state at the beginning of the cycle. -/
theorem tickPasses_after_command {s c : State} (h : commandPort s = .next c)
    (htaken : commandTakesTick s = false) (now : Time) :
    TickPasses c c.enabled now ↔ TickPasses s (enabledAfterCommand s) now := by
  rw [← commandPort_enabled h]
  cases hon : c.enabled with
  | false => simp [TickPasses]
  | true =>
    obtain ⟨hflight, hupdate, hperiod⟩ := commandPort_keeps_checks h htaken hon
    simp [TickPasses, hflight, hupdate, hperiod]

/-- Settles O52: the answer of position 1 or the query in flight is still there at the end of the cycle; the
strobe is raised by the command, or by the tick port on checks that the command left as they were. -/
theorem everyAcceptedCommandIsAnswered : Obligations.EveryAcceptedCommandIsAnswered := by
  intro s hrst
  obtain ⟨c, hc⟩ := commandPort_next (beginCycle s)
  obtain ⟨_, hcycle, hpins⟩ := sameCycle_commandPort hc
  refine ⟨_, step_cycle hrst hc, fun haccepts => ?answered, fun hidle hlater => ?silent, ?strobe⟩
  case answered =>
    rcases commandPort_answers (s := beginCycle s) haccepts hc with hanswer | ⟨hdecode, q, hq, hwaits⟩
    · exact .inl (afterCommand_keeps_response hanswer _)
    · obtain ⟨r, hr, hcommit, _⟩ := tickPort_keeps_query hq (commandTakesTick (beginCycle s))
      have hafter := afterCommand_of_query_waits hr (by rw [hcommit, hcycle]; exact hwaits)
      exact .inr ⟨hdecode, by simp [hafter, hr]⟩
  case silent =>
    have hquiet : commandPort (beginCycle s) = .next (beginCycle s) := by simp [commandPort, hidle]
    obtain rfl := Host.Outcome.next.inj (hquiet.symm.trans hc)
    rw [afterCommand_of_no_query_due (s := beginCycle s) hlater]
    simp
  case strobe =>
    rw [closeCycle_encStrobe, afterCommand_encStrobe, commandPort_encStrobe (s := beginCycle s) rfl hc]
    rw [hpins, accepted_command_samples_iff (beginCycle s)]
    cases htaken : commandTakesTick (beginCycle s) with
    | true =>
      have hsampled := (commandTakesTick_iff (beginCycle s)).1 htaken
      exact iff_of_true (.inl (.inr hsampled)) (.inr (.inl hsampled))
    | false =>
      rw [tickPasses_after_command hc htaken, eq_self, true_and]
      exact or_assoc

end Sys2Proof.Machine

/-! Runs of several cycles: the answer of a QUERY_LENGTH and the result of a tick after `T_LAT` cycles
(70_reset_and_hazards.md R161, R162, R175). -/

namespace Sys2Proof.Machine

open Sys2Proof.Safety

/-! A run by its first and by its last step. -/

theorem coreRun_of_step {M : Host.Core} {s t : M.State} (h : M.step s = .next t) (n : Nat) :
    M.run (n + 1) s = M.run n t := by
  rw [Host.Core.run, h]

theorem run_of_step {s t : State} (h : step s = .next t) (n : Nat) : core.run (n + 1) s = core.run n t :=
  coreRun_of_step (M := core) h n

theorem run_succ {n : Nat} {s u : State} (h : core.run n s = .next u) : core.run (n + 1) s = step u := by
  induction n generalizing s with
  | zero =>
    obtain rfl := Host.Outcome.next.inj h
    obtain ⟨t, ht⟩ := everyStepAnswersNext s
    rw [run_of_step ht, ht]
    rfl
  | succ n ih =>
    obtain ⟨t, ht⟩ := everyStepAnswersNext s
    rw [run_of_step ht] at h
    rw [run_of_step ht]
    exact ih h

/-! The ports of the next cycle (log 2). -/

/-- No reset is presented when the stimulus holds none. -/
theorem nextPins_rst {s : State} (h : ∀ p ∈ s.stimulus, p.rst = false) : (nextPins s).rst = false := by
  unfold nextPins
  split
  next p _ hs => exact h p (by simp [hs])
  next => rfl

/-- A tick is requested in the next cycle only by the stimulus. -/
theorem nextPins_tickValid {s : State} (h : (nextPins s).tickValid = true) :
    ∃ p ∈ s.stimulus.take 1, p.tickValid = true := by
  unfold nextPins at h
  split at h
  next p rest hs => exact ⟨p, by simp [hs], h⟩
  next => cases h

/-! A QUERY_LENGTH from its acceptance to its answer. -/

/-- After `n` cycles of a run from `s`, which accepts a QUERY_LENGTH, the query is in flight on its own sample
until its commit cycle; it is cancelled only by a tick-port request of a cycle before, and such a request comes
from the stimulus. -/
structure QueryAwaits (s u : State) (n : Nat) : Prop where
  build : u.build = s.build
  cycle : u.cycle = s.cycle + n
  stimulus : u.stimulus = s.stimulus.drop n
  rst : u.pins.rst = false
  requested : u.pins.tickValid = true → ∃ p ∈ s.stimulus.take n, p.tickValid = true
  silent : u.rspValid = false
  query : ∃ q, u.queryFlight = some q ∧ q.commitAt = s.commitCycle ∧
    q.raw = s.pins.encRaw ∧ q.cfg = s.cfg ∧
    (q.cancelled = true → ∃ p ∈ s.stimulus.take (n - 1), p.tickValid = true)

/-- The ports after `n + 1` cycles are those that the stimulus holds for that cycle, or idle. -/
theorem requested_of_nextPins {s u : State} {n : Nat} (hstimulus : u.stimulus = s.stimulus.drop n)
    (h : (nextPins u).tickValid = true) : ∃ p ∈ s.stimulus.take (n + 1), p.tickValid = true := by
  obtain ⟨p, hp, hvalid⟩ := nextPins_tickValid h
  refine ⟨p, ?_, hvalid⟩
  rw [List.take_add, List.mem_append, ← hstimulus]
  exact .inr hp

/-- The first cycle with `T_LAT > 1`: a tick of the same cycle shares the sample and cancels nothing (R162). -/
theorem queryAwaits_start {s : State} (haccepts : s.accepts = true)
    (hdecode : decode s.pins.cmdWord = .command .queryLength) (hfree : s.tickFlight = none)
    (hquiet : ∀ p ∈ s.stimulus, p.rst = false) (hlat : s.build.extraLatency ≠ 0) :
    ∃ u, step s = .next u ∧ QueryAwaits s u 1 := by
  have hc := occupyWithQuery_of_more (s := beginCycle s) hlat
  have hq : (occupyWithQuery (beginCycle s)).queryFlight = some
      { commitAt := s.commitCycle, cancelled := false, raw := s.pins.encRaw, cfg := s.cfg } := by
    rw [hc]
    rfl
  obtain ⟨r, hr, hcommit, hraw, hcfg, hcancel⟩ := tickPort_keeps_query hq false
  have hlater : r.commitAt ≠ (occupyWithQuery (beginCycle s)).cycle := by
    rw [hcommit, occupyWithQuery_cycle]
    exact commitCycle_ne_cycle hlat
  have hafter := afterCommand_of_query_waits hr hlater
  refine ⟨_, step_of_occupying_query haccepts hdecode hfree, ?_⟩
  rw [hafter]
  exact
    { build := by simp
      cycle := rfl
      stimulus := by simp
      rst := nextPins_rst hquiet
      requested := fun h => requested_of_nextPins (n := 0) rfl h
      silent := by simp [hc]
      query := by
        refine ⟨r, by simp [hr], hcommit, hraw, hcfg, fun hcancelled => ?_⟩
        rcases hcancel hcancelled with hbefore | ⟨_, hearlier⟩
        · cases hbefore
        · exact absurd (by rw [hc]; rfl) hearlier }

/-- The query after positions 2 and 3 of a later cycle. -/
theorem QueryAwaits.query_after_tickPort {s u : State} {n : Nat} (h : QueryAwaits s u n) :
    ∃ r, (tickPort false (stopPin (beginCycle u))).queryFlight = some r ∧ r.commitAt = s.commitCycle ∧
      r.raw = s.pins.encRaw ∧ r.cfg = s.cfg ∧
      (r.cancelled = true → ∃ p ∈ s.stimulus.take n, p.tickValid = true) := by
  obtain ⟨q, hq, hcommit, hraw, hcfg, hcancel⟩ := h.query
  obtain ⟨r, hr, hrcommit, hrraw, hrcfg, hrcancel⟩ := tickPort_keeps_query (s := beginCycle u) hq false
  refine ⟨r, hr, hrcommit.trans hcommit, hrraw.trans hraw, hrcfg.trans hcfg, fun hcancelled => ?_⟩
  rcases hrcancel hcancelled with hbefore | ⟨hvalid, _⟩
  · obtain ⟨p, hp, hpvalid⟩ := hcancel hbefore
    exact ⟨p, List.take_subset_take_left _ (by omega) hp, hpvalid⟩
  · exact h.requested hvalid

theorem QueryAwaits.step_eq {s u : State} {n : Nat} (h : QueryAwaits s u n) :
    step u = .next (closeCycle u (afterCommand false (beginCycle u))) := by
  obtain ⟨q, hq, _⟩ := h.query
  exact step_of_query h.rst hq

/-- A later cycle before the commit cycle. -/
theorem QueryAwaits.next {s u : State} {n : Nat} (h : QueryAwaits s u n)
    (hquiet : ∀ p ∈ s.stimulus, p.rst = false) (hlater : n < s.build.extraLatency) :
    ∃ v, step u = .next v ∧ QueryAwaits s v (n + 1) := by
  obtain ⟨r, hr, hcommit, hraw, hcfg, hcancel⟩ := h.query_after_tickPort
  have hwaits : r.commitAt ≠ u.cycle := by
    rw [hcommit, h.cycle]
    unfold State.commitCycle
    omega
  obtain ⟨hquery, hsilent⟩ := query_waits hr hwaits
  have hrest : ∀ p ∈ u.stimulus, p.rst = false := fun p hp =>
    hquiet p (List.mem_of_mem_drop (h.stimulus ▸ hp))
  refine ⟨_, h.step_eq, ?_⟩
  exact
    { build := by simpa using h.build
      cycle := by rw [closeCycle_cycle, h.cycle, Nat.add_assoc]
      stimulus := by rw [closeCycle_stimulus, h.stimulus, List.tail_drop]
      rst := nextPins_rst hrest
      requested := fun hvalid => requested_of_nextPins h.stimulus hvalid
      silent := hsilent
      query := ⟨r, hquery, hcommit, hraw, hcfg, hcancel⟩ }

/-- The run up to the commit cycle. -/
theorem queryAwaits_run {s : State} (haccepts : s.accepts = true)
    (hdecode : decode s.pins.cmdWord = .command .queryLength) (hfree : s.tickFlight = none)
    (hquiet : ∀ p ∈ s.stimulus, p.rst = false) {n : Nat} (hn : n < s.build.extraLatency) :
    ∃ u : State, core.run (n + 1) s = .next u ∧ QueryAwaits s u (n + 1) := by
  induction n with
  | zero =>
    obtain ⟨u, hu, hawaits⟩ := queryAwaits_start haccepts hdecode hfree hquiet (by omega)
    exact ⟨u, run_of_step hu 0, hawaits⟩
  | succ n ih =>
    obtain ⟨u, hu, hawaits⟩ := ih (by omega)
    obtain ⟨v, hv, hnext⟩ := hawaits.next hquiet hn
    exact ⟨v, (run_succ hu).trans hv, hnext⟩

/-- A QUERY_LENGTH has had its answer: OK with the result of its sample, or BUSY after a tick-port request of one
of the cycles between (R161, R162). -/
def QueryAnswered (s t : State) : Prop :=
  t.cmdReady = true ∧ t.rspValid = true ∧
    ((t.rspStatus = 0#2 ∧ t.rspData = queryData s.cfg s.pins.encRaw) ∨
      (t.rspStatus = 3#2 ∧ t.rspData = 0#32 ∧ 1 < s.build.tLat ∧
        ∃ p ∈ s.stimulus.take (s.build.tLat - 1), p.tickValid = true))

/-- The port is ready again in a cycle without a reset and without a query in flight (R61). -/
theorem cmdReady_of_free {s : State} (hrst : s.pins.rst = false) (hquery : s.queryFlight = none) :
    s.cmdReady = true := by
  simp [State.cmdReady, State.portFree, hrst, hquery]

/-- The commit cycle answers. -/
theorem QueryAwaits.answered {s u : State} (h : QueryAwaits s u s.build.extraLatency)
    (hquiet : ∀ p ∈ s.stimulus, p.rst = false) (hlat : s.build.extraLatency ≠ 0) :
    ∃ t, step u = .next t ∧ QueryAnswered s t := by
  obtain ⟨r, hr, hcommit, hraw, hcfg, hcancel⟩ := h.query_after_tickPort
  have hdue : r.commitAt = u.cycle := hcommit.trans h.cycle.symm
  have hrest : ∀ p ∈ u.stimulus, p.rst = false := fun p hp =>
    hquiet p (List.mem_of_mem_drop (h.stimulus ▸ hp))
  refine ⟨_, h.step_eq, ?_⟩
  cases hcancelled : r.cancelled with
  | true =>
    obtain ⟨hquery, hvalid, hstatus, hdata⟩ := query_answers_busy hr hcancelled hdue
    exact ⟨cmdReady_of_free (nextPins_rst hrest) hquery, hvalid,
      .inr ⟨hstatus, hdata, (one_lt_tLat_iff s).2 hlat, hcancel hcancelled⟩⟩
  | false =>
    obtain ⟨hquery, hvalid, hstatus, hdata⟩ := query_answers_ok hr hcancelled hdue
    rw [hraw, hcfg] at hdata
    exact ⟨cmdReady_of_free (nextPins_rst hrest) hquery, hvalid, .inl ⟨hstatus, hdata⟩⟩

/-- With `T_LAT = 1` the cycle of acceptance answers. -/
theorem queryAnswered_at_once {s : State} (haccepts : s.accepts = true)
    (hdecode : decode s.pins.cmdWord = .command .queryLength) (hfree : s.tickFlight = none)
    (hquiet : ∀ p ∈ s.stimulus, p.rst = false) (hlat : s.build.extraLatency = 0) :
    ∃ t, step s = .next t ∧ QueryAnswered s t := by
  obtain ⟨_, _, hnone⟩ := of_accepts haccepts
  have hc := occupyWithQuery_of_one (s := beginCycle s) hlat
  obtain ⟨hafter, hquery⟩ :=
    afterCommand_of_no_query (s := occupyWithQuery (beginCycle s)) (by rw [hc]; exact hnone) false
  refine ⟨_, step_of_occupying_query haccepts hdecode hfree, ?_⟩
  rw [hafter]
  refine ⟨cmdReady_of_free (nextPins_rst hquiet) (by simpa using hquery), ?_, .inl ⟨?_, ?_⟩⟩
  · simp [hc]
  · simp [hc, RspStatus.code]
  · simp [hc, encRead]

/-- Settles O57: the query waits through the cycles up to its commit cycle, which answers it. -/
theorem queryIsAnsweredAfterItsLatency : Obligations.QueryIsAnsweredAfterItsLatency := by
  intro s haccepts hdecode hfree hquiet
  constructor
  · intro n hfrom hto
    obtain ⟨k, rfl⟩ := Nat.exists_eq_add_of_le' hfrom
    obtain ⟨u, hu, hawaits⟩ := queryAwaits_run haccepts hdecode hfree hquiet
      (Nat.lt_of_succ_lt_succ hto)
    obtain ⟨q, hq, _⟩ := hawaits.query
    exact ⟨u, hu, by simp [State.cmdReady, State.portFree, hq], hawaits.silent⟩
  · cases hlat : s.build.extraLatency with
    | zero =>
      obtain ⟨t, ht, hanswered⟩ := queryAnswered_at_once haccepts hdecode hfree hquiet hlat
      refine ⟨t, ?_, hanswered⟩
      rw [(tLat_eq_one_iff s).2 hlat]
      exact run_of_step ht 0
    | succ k =>
      obtain ⟨u, hu, hawaits⟩ := queryAwaits_run haccepts hdecode hfree hquiet (n := k) (by omega)
      rw [← hlat] at hu hawaits
      obtain ⟨t, ht, hanswered⟩ := hawaits.answered hquiet (by omega)
      exact ⟨t, (run_succ hu).trans ht, hanswered⟩

/-! A tick with idle cycles after it (R175). -/

/-- Nothing is asked of the block now or later, and no query is in flight. -/
def Resting (s : State) : Prop := PortsIdle s ∧ s.stimulus = [] ∧ s.queryFlight = none

theorem registersOf_applyTick {s t : State} (h : registersOf s = registersOf t) (snap : Snapshot) :
    registersOf (applyTick snap s) = registersOf (applyTick snap t) := by
  have happly : ∀ u : State, registersOf (applyTick snap u) = applyTick snap (registersOf u) := by
    intro u
    rw [applyTick_eq, driveDuty_eq, applyTick_eq, driveDuty_eq]
    rfl
  rw [happly, happly, h]

/-- When the stimulus has ended and no word is held, the next cycle is idle (log 2). -/
theorem resting_closeCycle {s t : State} (hvalid : s.pins.cmdValid = false) (hstimulus : s.stimulus = [])
    (hquery : t.queryFlight = none) : Resting (closeCycle s t) := by
  have hpins : nextPins s = PortInputs.idle (Config.encDraw (s.cycle + 1)) := by
    simp [nextPins, hstimulus, unpresentedPins, hvalid, PortInputs.idle]
  refine ⟨?_, by simp [hstimulus], hquery⟩
  rw [PortsIdle, closeCycle_pins, hpins]
  exact ⟨rfl, rfl, rfl, rfl⟩

/-- In an idle cycle only a tick can commit. -/
theorem step_of_resting {s : State} (h : Resting s) :
    step s = .next (closeCycle s (commitTick (beginCycle s))) := by
  obtain ⟨⟨hrst, hvalid, htick, hstop⟩, _, hquery⟩ := h
  have haccepts : s.accepts = false := by simp [State.accepts, hvalid]
  rw [step_of_not_accepts hrst haccepts, (afterCommand_of_no_query (s := beginCycle s) hquery false).1,
    stopPin_of_idle (s := beginCycle s) hstop, tickPort_of_idle (s := beginCycle s) htick]

/-- Idle cycles before the commit of the tick in flight, if any, change no register. -/
theorem run_of_resting {u : State} (hu : Resting u) {n : Nat}
    (hwait : ∀ f, u.tickFlight = some f → u.cycle + n ≤ f.commitAt) :
    ∃ v : State, core.run n u = .next v ∧ Resting v ∧ v.cycle = u.cycle + n ∧ v.tickFlight = u.tickFlight ∧
      registersOf v = registersOf u := by
  induction n with
  | zero => exact ⟨u, rfl, hu, rfl, rfl, rfl⟩
  | succ n ih =>
    obtain ⟨v, hv, hrest, hcycle, hflight, hregisters⟩ := ih fun f hf => by have := hwait f hf; omega
    have hnotdue : commitTick (beginCycle v) = beginCycle v := commitTick_of_not_due fun f hf => by
      have := hwait f (hflight ▸ hf)
      rw [beginCycle_cycle, hcycle]
      omega
    have hstep := step_of_resting hrest
    rw [hnotdue] at hstep
    obtain ⟨⟨_, hvalid, _⟩, hstimulus, hquery⟩ := hrest
    exact ⟨_, (run_succ hv).trans hstep, resting_closeCycle hvalid hstimulus hquery,
      by rw [closeCycle_cycle, hcycle, Nat.add_assoc], hflight, hregisters⟩

/-- A tick-port request alone in its cycle, with nothing in flight and nothing presented afterwards. -/
structure LoneTickRequest (s : State) : Prop where
  rst : s.pins.rst = false
  noCommand : s.pins.cmdValid = false
  noStop : s.pins.estopReq = false
  requested : s.pins.tickValid = true
  stimulus : s.stimulus = []
  tickFree : s.tickFlight = none
  queryFree : s.queryFlight = none

/-- The cycle of the request. -/
theorem LoneTickRequest.step_eq {s : State} (h : LoneTickRequest s) :
    step s = .next (closeCycle s (commitTick (tickPort false (beginCycle s)))) := by
  have haccepts : s.accepts = false := by simp [State.accepts, h.noCommand]
  rw [step_of_not_accepts h.rst haccepts,
    (afterCommand_of_no_query (s := beginCycle s) h.queryFree false).1,
    stopPin_of_idle (s := beginCycle s) h.noStop]

/-- A request that fails its checks changes no register, at any latency. -/
theorem LoneTickRequest.run_of_skipped {s : State} (h : LoneTickRequest s)
    (hfails : ¬ TickPasses s s.enabled s.pins.tickNow) (n : Nat) :
    ∃ t : State, core.run (n + 1) s = .next t ∧ registersOf t = registersOf s := by
  have hskipped : tickPort false (beginCycle s) = beginCycle s := by
    rw [tickPort, if_pos (by exact h.requested)]
    rcases tickVerdict_cases false s.pins.tickNow (beginCycle s) with
      ⟨hflight | htaken, _⟩ | ⟨_, _, _, hv⟩ | ⟨_, _, _, _, hv⟩ | ⟨_, _, _, _, hv⟩
    · simp [h.tickFree] at hflight
    · cases htaken
    · exact congrArg (performTick · s.pins.tickNow (beginCycle s)) hv
    · exact congrArg (performTick · s.pins.tickNow (beginCycle s)) hv
    · exact absurd ((tickVerdict_accepted_iff _ _ _).1 hv).2 hfails
  have hstep := h.step_eq
  rw [hskipped, commitTick_of_none (s := beginCycle s) h.tickFree] at hstep
  have hrest := resting_closeCycle (t := beginCycle s) h.noCommand h.stimulus h.queryFree
  obtain ⟨v, hv, _, _, _, hregisters⟩ := run_of_resting hrest (n := n) fun f hf => by
    simp [h.tickFree] at hf
  exact ⟨v, (run_of_step hstep n).trans hv, hregisters⟩

/-- A request that passes its checks leaves after `T_LAT` cycles what its tick, applied to the registers it
found, leaves. -/
theorem LoneTickRequest.run_of_passing {s : State} (h : LoneTickRequest s)
    (hpasses : TickPasses s s.enabled s.pins.tickNow) :
    ∃ t : State, core.run s.build.tLat s = .next t ∧
      registersOf t = registersOf (applyTick (tickSnapshot s.pins.tickNow s) s) := by
  have hport : tickPort false (beginCycle s) = acceptTick s.pins.tickNow (beginCycle s) :=
    tickPort_of_accepted (s := beginCycle s) h.requested
      ((tickVerdict_accepted_iff _ _ _).2 ⟨rfl, hpasses⟩)
  have hwaits : commitTick (acceptTick s.pins.tickNow (beginCycle s)) =
      acceptTick s.pins.tickNow (beginCycle s) :=
    commitTick_of_not_due fun f hf => by
      simpa using acceptTick_not_due (s := beginCycle s) h.tickFree _ f hf
  have hnone : (beginCycle s).preemptedQuery = none := preemptedQuery_of_none h.queryFree
  have hstep := h.step_eq
  rw [hport, hwaits] at hstep
  cases hlat : s.build.extraLatency with
  | zero =>
    rw [acceptTick_of_one (s := beginCycle s) hlat] at hstep
    have hrun := run_of_step hstep 0
    rw [zero_add, ← (tLat_eq_one_iff s).2 hlat] at hrun
    have hsame : registersOf { markSampled (beginCycle s) with
        queryFlight := (beginCycle s).preemptedQuery } = registersOf s := rfl
    exact ⟨_, hrun, registersOf_applyTick hsame (tickSnapshot s.pins.tickNow s)⟩
  | succ k =>
    rw [acceptTick_of_more (s := beginCycle s) (by rw [beginCycle_build]; omega), hnone] at hstep
    have hcommit : s.commitCycle = s.cycle + 1 + k := by
      unfold State.commitCycle
      omega
    have hidle : Resting (closeCycle s { markSampled (beginCycle s) with
        queryFlight := none
        tickFlight := some
          { commitAt := s.commitCycle, snap := tickSnapshot s.pins.tickNow s } }) :=
      resting_closeCycle h.noCommand h.stimulus rfl
    obtain ⟨v, hv, hrest, hcycle, hflight, hregisters⟩ := run_of_resting hidle (n := k) fun f hf => by
      cases hf
      exact hcommit.ge
    have hdue : commitTick (beginCycle v) = _ := commitTick_of_due hflight (hcommit.trans hcycle.symm)
    have hend := step_of_resting hrest
    rw [hdue] at hend
    have hrun := (run_succ ((run_of_step hstep k).trans hv)).trans hend
    rw [← hlat] at hrun
    have hsame : registersOf { beginCycle v with tickFlight := none } = registersOf s := hregisters
    exact ⟨_, hrun, registersOf_applyTick hsame (tickSnapshot s.pins.tickNow s)⟩

/-- Settles O58: a request that fails its checks changes nothing at either latency, and the tick of one that
passes is applied to the same registers. -/
theorem latencyDoesNotChangeTheResult : Obligations.LatencyDoesNotChangeTheResult := by
  intro s hrst hcommand hstop hrequested hstimulus htick hquery
  have hslow : LoneTickRequest s := ⟨hrst, hcommand, hstop, hrequested, hstimulus, htick, hquery⟩
  have hfast : LoneTickRequest { s with build := { s.build with extraLatency := 0 } } :=
    ⟨hrst, hcommand, hstop, hrequested, hstimulus, htick, hquery⟩
  by_cases hpasses : TickPasses s s.enabled s.pins.tickNow
  · obtain ⟨t, ht, hregisters⟩ := hslow.run_of_passing hpasses
    obtain ⟨u, hu, hregisters'⟩ := hfast.run_of_passing hpasses
    refine ⟨t, u, ht, (run_succ rfl).symm.trans hu, hregisters.trans ?_⟩
    have hsame : registersOf s =
        registersOf { s with build := { s.build with extraLatency := 0 } } := rfl
    rw [hregisters']
    exact registersOf_applyTick hsame (tickSnapshot s.pins.tickNow s)
  · obtain ⟨t, ht, hregisters⟩ := hslow.run_of_skipped hpasses s.build.extraLatency
    obtain ⟨u, hu, hregisters'⟩ := hfast.run_of_skipped hpasses 0
    exact ⟨t, u, ht, (run_succ rfl).symm.trans hu, hregisters.trans hregisters'.symm⟩

end Sys2Proof.Machine
